-- ==== Sys2Proof/Word.lean ====
section
/-! DEFINITION. The words of the block: bytes of the chip's register space, the 16-bit command and register words, the
32-bit operands and the 64-bit result port (00_scope.md R8, R11; 10_state.md R30, R31). Bit 0 is the least significant bit. -/

namespace Sys2Proof

/-- One byte of the chip's register space, and also a byte offset in it (20_memory.md R50: the offset is 8 bits wide). -/
abbrev Byte := BitVec 8

/-- A command word, or the register word of a two-byte register (30_encoding.md R80, 20_memory.md R56). -/
abbrev Word16 := BitVec 16

/-- A 32-bit operand of the request record, or a stored calibration value (10_state.md R21, R22, R30). -/
abbrev Word32 := BitVec 32

/-- The result port RES (10_state.md R31). -/
abbrev Word64 := BitVec 64

end Sys2Proof
end

