-- ==== Sys2Proof/Config.lean ====
section
/-! DEFINITION. What an implementation fixes, and what nothing fixes: the named parameters the spec leaves open, which the model
takes as arguments (00_scope.md R9, R10; held in `State.params`, so that a statement over every state covers every choice), the
form of the environment's answers, and the free values, opaque constants of which nothing can be proved. -/

namespace Sys2Proof

/-- DUTY_RD_BASE: the register `GET.PWM` and `GET.SPD` read (00_scope.md R9, D12). -/
inductive DutyRdBase where
  /-- 0x30, PWM duty readback; the default. -/
  | readback
  /-- 0x40, PWM out / duty set. -/
  | dutySet
  deriving DecidableEq, Repr

/-- SR_UNMATCHED: what decoding speed-range codes 6 and 7 gives (00_scope.md R9, D10). -/
inductive SrUnmatched where
  /-- Status UnrecognizedEncoding; the default. -/
  | error
  /-- The value 32, the legacy behaviour. -/
  | alias32
  deriving DecidableEq, Repr

/-- TGT_SENTINEL_DECODE: what decoding the raw target 2047 gives (00_scope.md R9, D16). -/
inductive TgtSentinelDecode where
  /-- The value 0, status OK; the default. -/
  | zero
  /-- The conversion identity applied to 2047. -/
  | identity
  deriving DecidableEq, Repr

/-- The named parameters (00_scope.md R9) and the host's two (R10). No step changes them. -/
structure Params where
  /-- DEV_ADDR, the bus address of the chip: opaque, passed unchanged to every RegisterBus primitive (R9, D28). -/
  devAddr : Nat
  dutyRdBase : DutyRdBase
  srUnmatched : SrUnmatched
  tgtSentinelDecode : TgtSentinelDecode
  /-- FRAC, the number of fraction bits of RES. -/
  frac : Nat
  /-- AT_SAMPLES of the host's auto-tuner (44_autotuner_host.md R223). -/
  atSamples : Nat
  /-- AT_MAX_STEPS of the host's auto-tuner: `none` is the legacy host without a cap (44_autotuner_host.md R228). -/
  atMaxSteps : Option Nat
  deriving DecidableEq, Repr

/-- The defaults the spec gives. `devAddr` has none: 0 is a DESIGN CHOICE (log 10, unsafe for a claim that rests on it, none does).
`atMaxSteps` has none either: `none`, the legacy host, is a DESIGN CHOICE (log 17). -/
def Params.default : Params where
  devAddr := 0
  dutyRdBase := .readback
  srUnmatched := .error
  tgtSentinelDecode := .zero
  frac := 24
  atSamples := 20
  atMaxSteps := none

/-- How the environment answers one RegisterBus transaction (20_memory.md R52: success or failure; R53: perhaps never). `left` is what a
write that did not complete left in the addressed register: `none`, nothing was written; `some w`, the register (two bytes) or
bit (`w` bit 0) holds `w`, which may be any value (U9, log 7). -/
inductive BusAnswer where
  /-- The transaction succeeds and a read is answered from the register image, as MEMBUS does (20_memory.md R72). -/
  | memory
  /-- The transaction succeeds and a read is answered with `w`, a free answer (10_state.md R41): two bytes, first byte high; one bit in bit 0. -/
  | value (w : Word16)
  /-- The transaction fails: the command ends with TransportError (60_exceptions.md R246). -/
  | fail (left : Option Word16)
  /-- The transaction never completes (20_memory.md R53): the block is stuck until reset. -/
  | pending (left : Option Word16)
  deriving DecidableEq, Repr, Inhabited

/-- What answers when the script of answers is used up. -/
inductive EnvMode where
  /-- Every further answer is a free draw (10_state.md R41, U7). -/
  | free
  /-- The reference environment MEMBUS: every further transaction succeeds on the register image (20_memory.md R72). -/
  | membus
  deriving DecidableEq, Repr

/-- FREE VALUE (10_state.md R41, U7, U8; log 3): the environment's answer to the n-th free transaction. It has no body: nothing is known of
it, neither data nor success. DESIGN CHOICE, safe. -/
opaque Config.freeAnswer : Nat → BusAnswer

/-- FREE VALUE (log 11): what RES carries when `floor(val * 2^FRAC)` does not fit its 64 bits, which 41_unit_conversion.md R131 excludes for
FRAC = 24 and no rule states for a larger FRAC. DESIGN CHOICE, safe. -/
opaque Config.resOverflow : Nat → Word64

end Sys2Proof
end

