-- ==== Sys2Proof/Machine/State.lean ====
section
/-! DEFINITION. The machine's state as plain data: the block (10_state.md R20 to R31), its parameters (00_scope.md R9), the chip's register space
(10_state.md R32 to R38) and the two other agents of 00_scope.md R17, the environment behind the RegisterBus and the host. -/

namespace Sys2Proof.Machine

/-- The six channels, ids 1 to 6 (00_scope.md R7). -/
inductive Channel where
  | ch1 | ch2 | ch3 | ch4 | ch5 | ch6
  deriving DecidableEq, Repr

/-- One value for each channel: an array of the source, indexed 1 to 6 (10_state.md R20). -/
structure PerChannel (α : Type) where
  ch1 : α
  ch2 : α
  ch3 : α
  ch4 : α
  ch5 : α
  ch6 : α
  deriving DecidableEq, Repr

/-- The status codes of 60_exceptions.md R240. The last two are the host auto-tuner's outcomes; the block never answers them. -/
inductive Status where
  | ok
  | invalidChannel
  | invalidArgument
  | noSignal
  | transportError
  | unrecognizedEncoding
  | tuningUnreachable
  | didNotConverge
  deriving DecidableEq, Repr

/-- How a command ends: `ok val` with the exact rational result, or the status it raises (10_state.md R31, 00_scope.md R15). -/
abbrev Result := Except Status Rat

/-- The request record, six input fields (10_state.md R30). -/
structure Request where
  /-- CW, the command word. -/
  cw : Word16
  /-- WDATA, the write-data operand. -/
  wdata : Word32
  /-- KCOUNT, a raw count or raw target. -/
  kcount : BitVec 11
  /-- KSR, a speed range as a number. -/
  ksr : BitVec 6
  /-- KPPR, pulses per revolution. -/
  kppr : Word32
  /-- KPPM3, pulses per cubic metre. -/
  kppm3 : Word32
  deriving DecidableEq, Repr

/-- What the block is doing (10_state.md R29, 60_exceptions.md R260). The outputs follow from it: `req_ready = 1` exactly when idle, `rsp_valid = 1`
exactly when responding. -/
inductive Phase where
  /-- No command in progress. -/
  | idle
  /-- A command is in progress and its current bus transaction has not completed (20_memory.md R53). -/
  | busy
  /-- The cycle in which the response is on the port; `r` is carried exactly (41_unit_conversion.md R131), STATUS and RES are functions of it. -/
  | responding (r : Result)
  deriving DecidableEq, Repr

/-- One RegisterBus primitive with its operands (20_memory.md R52). Multi-byte accesses are always two bytes (R59), so `n = 2`. -/
inductive BusOp where
  | bitRead (off : Byte) (i : Fin 8)
  | bitWrite (off : Byte) (i : Fin 8) (b : Bool)
  | memRead (off : Byte)
  /-- `w` holds the two bytes written, the byte at `off` high (R57). -/
  | memWrite (off : Byte) (w : Word16)
  deriving DecidableEq, Repr

/-- What became of a transaction (20_memory.md R71). -/
inductive TransOutcome where
  /-- It succeeded; a read was answered `w` (two bytes, first byte high; one bit in bit 0), a write has `w = 0`. -/
  | done (w : Word16)
  | failed
  | pending
  deriving DecidableEq, Repr

/-- One recorded transaction: the device address, the primitive with its offset, bit or bytes, and its outcome (20_memory.md R71; log 16). -/
structure Transaction where
  dev : Nat
  op : BusOp
  outcome : TransOutcome
  deriving DecidableEq, Repr

/-- The chip's register space: (offset, byte) pairs, offsets strictly rising and below 256, no entry 0; an unlisted offset reads 0 as in
MEMBUS (20_memory.md R50, R72; log 5). -/
abbrev Memory := List Host.Cell

/-- The environment behind the RegisterBus (00_scope.md R17): the answers it will give, oldest first, and what answers after them. -/
structure Env where
  script : List BusAnswer
  otherwise : EnvMode
  /-- The model's own counter of free draws: the next one is `Config.freeAnswer draws` (log 3). -/
  draws : Nat
  deriving DecidableEq, Repr

/-- What the host does next (10_state.md R27: a program is the host's list of commands, its position counter the host's). -/
inductive HostAct where
  /-- Present a request on the command port. -/
  | command (r : Request)
  /-- Assert `rst` for one rising edge. -/
  | reset
  /-- Run one auto-tune invocation on a channel (44_autotuner_host.md R220). -/
  | tune (ch : BitVec 3)
  deriving DecidableEq, Repr

/-- Which command of the auto-tuner awaits its response (44_autotuner_host.md R222 to R226). -/
inductive TunerStage where
  /-- `GET.SR`, the start. -/
  | readSr
  /-- One `GET.TAC` of the batch. -/
  | sample
  /-- `SET.SR` to the new range. -/
  | adjust (newSr : Nat)
  deriving DecidableEq, Repr

/-- One auto-tune invocation in progress (44_autotuner_host.md R221 to R226). -/
structure Tuner where
  ch : BitVec 3
  /-- The speed range the host believes is set. -/
  sr : Nat
  /-- Samples taken in this batch. -/
  taken : Nat
  /-- Their sum: the mean is exact, `sum / taken` (R223). -/
  sum : Rat
  /-- `SET.SR` commands completed in this invocation, for AT_MAX_STEPS (R228). -/
  adjusts : Nat
  stage : TunerStage
  deriving DecidableEq, Repr

/-- How an auto-tune invocation ended: success, or failure with a status (44_autotuner_host.md R226, R227). -/
inductive TuneOutcome where
  | success
  | failed (st : Status)
  deriving DecidableEq, Repr

/-- The host agent (00_scope.md R17). -/
structure HostAgent where
  program : List HostAct
  tuner : Option Tuner
  outcome : Option TuneOutcome
  deriving DecidableEq, Repr

/-- The whole machine. -/
structure State where
  /-- The named parameters (00_scope.md R9, R10). -/
  params : Params
  /-- PPR[1..6] (10_state.md R21). -/
  ppr : PerChannel Word32
  /-- PPM3[1..6] (10_state.md R22). -/
  ppm3 : PerChannel Word32
  /-- AT_EN[1..6] (10_state.md R23). -/
  atEn : PerChannel Bool
  /-- The command in progress and the response port (10_state.md R29, R31). -/
  phase : Phase
  /-- Input port `rst` (10_state.md R29). -/
  rst : Bool
  /-- Input port `req_valid` (10_state.md R29). -/
  reqValid : Bool
  /-- The request record on the command port (10_state.md R30). -/
  req : Request
  /-- The transactions of the last accepted command, in order (20_memory.md R71). -/
  trace : List Transaction
  /-- The chip's register space (10_state.md R32). -/
  chip : Memory
  /-- The environment. -/
  env : Env
  /-- The host. -/
  host : HostAgent
  deriving DecidableEq, Repr

/-- How the machine stops. -/
inductive Fault where
  /-- Raised by `step` alone, in a state whose command waits for a bus transaction that never completes and where no reset comes: the block has no
  enabled step (20_memory.md R53, 70_reset_and_hazards.md R280, U10). Safe: nothing is claimed of such a block (log 8). -/
  | busNeverAnswers
  deriving DecidableEq, Repr

/-- Why an instruction has no meaning in the model. -/
inductive Refusal where
  /-- Raised by an arm of `exec` whose instruction is not modelled; no arm is, so nothing raises it. Safe. -/
  | notModelled (mnemonic : String)
  deriving DecidableEq, Repr

/-- The same value on all six channels. -/
def PerChannel.all {α : Type} (v : α) : PerChannel α := ⟨v, v, v, v, v, v⟩

/-- PPR_DEFAULT (00_scope.md R7). -/
def pprDefault : Word32 := 2

/-- PPM3_DEFAULT (00_scope.md R7). -/
def ppm3Default : Word32 := 1000000

/-- A request record of zeros: what the inputs hold at reset, where the spec gives none (DESIGN CHOICE, log 12). -/
def Request.zero : Request := ⟨0, 0, 0, 0, 0, 0⟩

/-- The machine right after reset: calibration at its defaults, no command in progress, `req_ready = 1`, `rsp_valid = 0` (10_state.md R40). The
inputs, the chip's registers, the environment and the host are outside the block's reset; their values here are DESIGN CHOICES (log 4, 5, 12). -/
def State.reset : State where
  params := Params.default
  ppr := PerChannel.all pprDefault
  ppm3 := PerChannel.all ppm3Default
  atEn := PerChannel.all false
  phase := .idle
  rst := false
  reqValid := false
  req := Request.zero
  trace := []
  chip := []
  env := ⟨[], .free, 0⟩
  host := ⟨[], none, none⟩

end Sys2Proof.Machine
end

