-- ==== Sys2Proof/Machine/Operands.lean ====
section
/-! DEFINITION. Constants the source fixes (00_scope.md R7), operand forms (30_encoding.md R87, R88), channel ids and register offsets (20_memory.md R60). -/

namespace Sys2Proof.Machine

/-- KCLK, the clock constant of the conversion (00_scope.md R7). -/
def kclk : Nat := 8192

/-- TACH_SAT, the saturation sentinel (00_scope.md R7). -/
def tachSat : Nat := 2047

/-- GAL, the US liquid gallon in cubic metres, 3785411784 / 10^12 (00_scope.md R7). -/
def gal : Rat := 3785411784 / 1000000000000

/-- Membership in SRSET = {1, 2, 4, 8, 16, 32} (00_scope.md R7). -/
def legalSr (n : Nat) : Bool := [1, 2, 4, 8, 16, 32].contains n

/-- A calibration constant is legal when its 32-bit pattern, read with `sext_32`, is 1 to 2^31 - 1 (30_encoding.md R87, R88). -/
def legalCal (v : Word32) : Bool := decide (1 ≤ v.toInt)

/-- The channel of a channel field: ids 1 to 6, none for 0 and 7 (60_exceptions.md R243). -/
def channelOf (ch : BitVec 3) : Option Channel :=
  match ch.toNat with
  | 1 => some .ch1
  | 2 => some .ch2
  | 3 => some .ch3
  | 4 => some .ch4
  | 5 => some .ch5
  | 6 => some .ch6
  | _ => none

/-- `ch - 1`, the array index of the source (10_state.md R20). -/
def Channel.index : Channel → Nat
  | .ch1 => 0
  | .ch2 => 1
  | .ch3 => 2
  | .ch4 => 3
  | .ch5 => 4
  | .ch6 => 5

/-- `WDATA[0]` (SET.MODE, SET.AT; 30_encoding.md R87). -/
def Request.wbit (r : Request) : Bool := r.wdata.getLsbD 0

/-- `WDATA[7:0]`, one register byte (KDEC.MODE, KDEC.SR; 30_encoding.md R87). -/
def Request.wbyte (r : Request) : Byte := r.wdata.extractLsb' 0 8

/-- `WDATA[15:0]`, a register word (KDEC.DUTY, KDEC.TACH; 30_encoding.md R87). -/
def Request.wword (r : Request) : Word16 := r.wdata.extractLsb' 0 16

/-- `WDATA` unsigned, all 32 bits (30_encoding.md R87). -/
def Request.wnum (r : Request) : Nat := r.wdata.toNat

/-- OffCfg (20_memory.md R60): Fan config. -/
def offCfg (c : Channel) : Byte := BitVec.ofNat 8 (0x02 + c.index)

/-- OffDyn (20_memory.md R60): Fan dynamics. -/
def offDyn (c : Channel) : Byte := BitVec.ofNat 8 (0x08 + c.index)

/-- OffTach (20_memory.md R60): Tach count. -/
def offTach (c : Channel) : Byte := BitVec.ofNat 8 (0x18 + c.index * 2)

/-- OffDutySet (20_memory.md R60): PWM out / duty set. -/
def offDutySet (c : Channel) : Byte := BitVec.ofNat 8 (0x40 + c.index * 2)

/-- OffTgt (20_memory.md R60): Tach target. -/
def offTgt (c : Channel) : Byte := BitVec.ofNat 8 (0x50 + c.index * 2)

/-- OffDutyRd (20_memory.md R60): the base is the parameter DUTY_RD_BASE. -/
def offDutyRd (base : DutyRdBase) (c : Channel) : Byte :=
  match base with
  | .readback => BitVec.ofNat 8 (0x30 + c.index * 2)
  | .dutySet => BitVec.ofNat 8 (0x40 + c.index * 2)

end Sys2Proof.Machine
end

