-- ==== Sys2Proof/Machine/Codec.lean ====
section
/-! DEFINITION. The pure functions of the register field codec (40_field_codec.md R111 to R119). -/

namespace Sys2Proof.Machine

/-- DecSR (R111): `c = byte[7:5]`; `2^c` for `c <= 5`, else as SR_UNMATCHED says. -/
def decSR (u : SrUnmatched) (byte : Byte) : Except Status Nat :=
  let c := (byte.extractLsb' 5 3).toNat
  if c ≤ 5 then .ok (2 ^ c)
  else match u with
    | .error => .error .unrecognizedEncoding
    | .alias32 => .ok 32

/-- EncSR (R112): the 3-bit code `log2(sr)`, InvalidArgument outside SRSET. -/
def encSR (sr : Nat) : Except Status (BitVec 3) :=
  match sr with
  | 1 => .ok 0
  | 2 => .ok 1
  | 4 => .ok 2
  | 8 => .ok 3
  | 16 => .ok 4
  | 32 => .ok 5
  | _ => .error .invalidArgument

/-- DecDuty (R113): `Word >> 7`, nine bits. -/
def decDuty (w : Word16) : BitVec 9 := w.extractLsb' 7 9

/-- EncDuty (R114): `v << 7` for `v` in 0 to 511, InvalidArgument above. -/
def encDuty (v : Nat) : Except Status Word16 :=
  if v > 511 then .error .invalidArgument else .ok (BitVec.ofNat 16 v <<< 7)

/-- DecTach (R115): `Word >> 5`, eleven bits. -/
def decTach (w : Word16) : BitVec 11 := w.extractLsb' 5 11

/-- EncTach (R116): `t << 5` for `t` in 0 to 2047, InvalidArgument above. -/
def encTach (t : Nat) : Except Status Word16 :=
  if t > 2047 then .error .invalidArgument else .ok (BitVec.ofNat 16 t <<< 5)

/-- DecMode (R117): bit 7. -/
def decMode (byte : Byte) : Bool := byte.getLsbD 7

/-- TgtEnc (R118): 2047 for `rpm = 0`; else `T = (60 * sr * 8192) div (ppr * rpm)` if `1 <= T <= 2046`, InvalidArgument otherwise. -/
def tgtEnc (rpm sr ppr : Nat) : Except Status Nat :=
  if rpm = 0 then .ok tachSat
  else
    let t := (60 * sr * kclk) / (ppr * rpm)
    if 1 ≤ t ∧ t ≤ 2046 then .ok t else .error .invalidArgument

/-- TgtDec (R119): NoSignal for 0; for 2047 as TGT_SENTINEL_DECODE says; else the exact rational `60 * sr * 8192 / (ppr * t)`. -/
def tgtDec (m : TgtSentinelDecode) (t : BitVec 11) (sr ppr : Nat) : Except Status Rat :=
  if t.toNat = tachSat ∧ m = .zero then .ok 0
  else if t.toNat = 0 then .error .noSignal
  else .ok (((60 * sr * kclk : Nat) : Rat) / ((ppr * t.toNat : Nat) : Rat))

end Sys2Proof.Machine
end

