-- ==== Sys2Proof/Machine/Flags.lean ====
section
/-! DEFINITION. The block has no flags, no condition codes and no sticky error bits (10_state.md R28): the outcome of a command is its response alone. This file
holds what stands in their place: the numeric status codes (60_exceptions.md R240) and the output ports of 10_state.md R29 and R31. -/

namespace Sys2Proof.Machine

/-- The 3-bit code of a status (60_exceptions.md R240). -/
def Status.code : Status → BitVec 3
  | .ok => 0
  | .invalidChannel => 1
  | .invalidArgument => 2
  | .noSignal => 3
  | .transportError => 4
  | .unrecognizedEncoding => 5
  | .tuningUnreachable => 6
  | .didNotConverge => 7

/-- The status of a result (10_state.md R31). -/
def resultStatus : Result → Status
  | .ok _ => .ok
  | .error st => st

/-- RES (41_unit_conversion.md R131): `floor(val * 2^FRAC)` in 64 bits, 0 for a status other than OK. A number that needs more than 64 bits is a
free value (log 11). -/
def resOf (frac : Nat) : Result → Word64
  | .ok v =>
    let n := (v * 2 ^ frac).floor.toNat
    if n < 2 ^ 64 then BitVec.ofNat 64 n else Config.resOverflow n
  | .error _ => 0

/-- Output port `req_ready` (10_state.md R29). -/
def State.reqReady (s : State) : Bool :=
  match s.phase with
  | .idle => true
  | _ => false

/-- Output port `rsp_valid` (10_state.md R29). -/
def State.rspValid (s : State) : Bool :=
  match s.phase with
  | .responding _ => true
  | _ => false

/-- The response record's result, in the cycle in which it is valid (log 15). -/
def State.response (s : State) : Option Result :=
  match s.phase with
  | .responding r => some r
  | _ => none

/-- Output port `STATUS[2:0]`, valid while `rsp_valid = 1` (10_state.md R31). -/
def State.statusPort (s : State) : Option (BitVec 3) := s.response.map fun r => (resultStatus r).code

/-- Output port `RES[63:0]`, valid while `rsp_valid = 1` (10_state.md R31). -/
def State.resPort (s : State) : Option Word64 := s.response.map (resOf s.params.frac)

end Sys2Proof.Machine
end

