-- ==== Sys2Proof/Machine/Ops.lean ====
section
/-! DEFINITION. The named operations over the calibration arrays, the chip's register space and the RegisterBus, and how a command starts and ends: acceptance, the
response, raising a status. Raising a status is the block's only exception mechanism: it saves nothing, changes no mode and transfers control nowhere
(60_exceptions.md R251), and there is nothing to return from. -/

namespace Sys2Proof.Machine

/-! Calibration arrays (00_scope.md R13). -/

/-- `A[ch]`. -/
def PerChannel.get {α : Type} (p : PerChannel α) : Channel → α
  | .ch1 => p.ch1
  | .ch2 => p.ch2
  | .ch3 => p.ch3
  | .ch4 => p.ch4
  | .ch5 => p.ch5
  | .ch6 => p.ch6

/-- `A[ch] <- v`. -/
def PerChannel.set {α : Type} (p : PerChannel α) (c : Channel) (v : α) : PerChannel α :=
  match c with
  | .ch1 => { p with ch1 := v }
  | .ch2 => { p with ch2 := v }
  | .ch3 => { p with ch3 := v }
  | .ch4 => { p with ch4 := v }
  | .ch5 => { p with ch5 := v }
  | .ch6 => { p with ch6 := v }

/-! The chip's register space. -/

/-- What an unlisted offset reads as: 0, as in MEMBUS (log 5). -/
def unlistedByte : Byte := 0

/-- Read one byte. -/
def readByte : Memory → Nat → Byte
  | [], _ => unlistedByte
  | (k, v) :: t, a => if k = a then v else readByte t a

/-- The memory without an entry for `a`. -/
def eraseByte : Memory → Nat → Memory
  | [], _ => []
  | (k, v) :: t, a => if k = a then eraseByte t a else (k, v) :: eraseByte t a

/-- An entry put before the first higher address. -/
def insertByte : Memory → Nat → Byte → Memory
  | [], a, b => [(a, b)]
  | (k, v) :: t, a, b => if a < k then (a, b) :: (k, v) :: t else (k, v) :: insertByte t a b

/-- Write one byte, keeping the canonical form: writing what an unlisted address reads as removes the entry. -/
def writeByte (m : Memory) (a : Nat) (b : Byte) : Memory :=
  if b = unlistedByte then eraseByte m a else insertByte (eraseByte m a) a b

/-- Addresses strictly rising from `lo` and below 256, and no entry equal to what an unlisted address reads as. -/
def wfFrom : Nat → Memory → Bool
  | _, [] => true
  | lo, (k, v) :: t => decide (lo ≤ k) && decide (k < 256) && decide (v ≠ unlistedByte) && wfFrom (k + 1) t

/-- The canonical form holds. -/
def Memory.wf (m : Memory) : Bool := wfFrom 0 m

/-- `Word(b0, b1) = b0 * 256 + b1` (20_memory.md R56). -/
def wordOf (b0 b1 : Byte) : Word16 := b0 ++ b1

/-- The high byte of a register word, at the lower offset (20_memory.md R57). -/
def hiByte (w : Word16) : Byte := w.extractLsb' 8 8

/-- The low byte of a register word (20_memory.md R57). -/
def loByte (w : Word16) : Byte := w.extractLsb' 0 8

/-- The register word at `off` (20_memory.md R56). -/
def readWord (m : Memory) (off : Byte) : Word16 := wordOf (readByte m off.toNat) (readByte m (off + 1).toNat)

/-- Store a register word at `off`: high byte at `off`, low byte at `off + 1` (20_memory.md R57). -/
def writeWord (m : Memory) (off : Byte) (w : Word16) : Memory :=
  writeByte (writeByte m off.toNat (hiByte w)) (off + 1).toNat (loByte w)

/-- A byte with bit `i` replaced (20_memory.md R55: the other seven stay). -/
def setBit (v : Byte) (i : Fin 8) (b : Bool) : Byte :=
  if b then v ||| (1#8 <<< i.val) else v &&& ~~~(1#8 <<< i.val)

/-! The RegisterBus as the reference environment keeps it (20_memory.md R72). -/

/-- What a read is answered from the register image: two bytes, or one bit in bit 0. A write is answered nothing. -/
def imageAnswer (m : Memory) : BusOp → Word16
  | .bitRead off i => if (readByte m off.toNat).getLsbD i then 1 else 0
  | .memRead off => readWord m off
  | .bitWrite _ _ _ => 0
  | .memWrite _ _ => 0

/-- The register image after a completed transaction. -/
def imageAfter (m : Memory) : BusOp → Memory
  | .bitWrite off i b => writeByte m off.toNat (setBit (readByte m off.toNat) i b)
  | .memWrite off w => writeWord m off w
  | .bitRead _ _ => m
  | .memRead _ => m

/-- The register image after a write that did not complete and left `left` behind (U9, log 7); a read leaves it alone. -/
def imageLeft (m : Memory) (op : BusOp) (left : Option Word16) : Memory :=
  match left with
  | none => m
  | some w =>
    match op with
    | .bitWrite off i _ => imageAfter m (.bitWrite off i (w.getLsbD 0))
    | .memWrite off _ => imageAfter m (.memWrite off w)
    | .bitRead _ _ => m
    | .memRead _ => m

/-- A free answer as the primitive delivers it: a bit read delivers one bit, a write nothing. -/
def freeData (op : BusOp) (w : Word16) : Word16 :=
  match op with
  | .bitRead _ _ => w &&& 1
  | .memRead _ => w
  | .bitWrite _ _ _ => 0
  | .memWrite _ _ => 0

/-- The environment's next answer, and the environment after it (log 3). -/
def Env.next (e : Env) : BusAnswer × Env :=
  match e.script with
  | a :: rest => (a, { e with script := rest })
  | [] =>
    match e.otherwise with
    | .membus => (.memory, e)
    | .free => (Config.freeAnswer e.draws, { e with draws := e.draws + 1 })

/-- The outcome of a transaction, given the environment's answer. -/
def outcomeOf (m : Memory) (op : BusOp) : BusAnswer → TransOutcome
  | .memory => .done (imageAnswer m op)
  | .value w => .done (freeData op w)
  | .fail _ => .failed
  | .pending _ => .pending

/-- The register image after a transaction, given the environment's answer (a free answer to a read leaves it alone, log 6). -/
def chipAfter (m : Memory) (op : BusOp) : BusAnswer → Memory
  | .memory => imageAfter m op
  | .value _ => imageAfter m op
  | .fail left => imageLeft m op left
  | .pending left => imageLeft m op left

/-- Issue one transaction: its outcome, and the state with the register image changed, the answer consumed and the transaction recorded
(20_memory.md R52, R71). -/
def issue (s : State) (op : BusOp) : TransOutcome × State :=
  let a := s.env.next
  let o := outcomeOf s.chip op a.1
  (o, { s with
        chip := chipAfter s.chip op a.1
        env := a.2
        trace := s.trace ++ [⟨s.params.devAddr, op, o⟩] })

/-! Starting and ending a command. -/

/-- Accept the request on the port (10_state.md R29): it is taken, and a new transaction list begins (20_memory.md R71). -/
def State.accept (s : State) : State := { s with reqValid := false, trace := [] }

/-- Deliver the response (00_scope.md R15). -/
def State.respond (s : State) (r : Result) : State := { s with phase := .responding r }

/-- `return OK(val)` (00_scope.md R15). -/
def State.ok (s : State) (v : Rat) : State := s.respond (.ok v)

/-- `raise <Status>` (00_scope.md R15, 60_exceptions.md R251): the response is delivered as for OK; nothing is saved, masked or transferred. -/
def State.raise (s : State) (st : Status) : State := s.respond (.error st)

/-- The block waits for a transaction that never completes (20_memory.md R53). -/
def State.hang (s : State) : State := { s with phase := .busy }

/-- A RegisterBus primitive inside a command body: the rest of the body `k` runs on success; a failure ends the command with TransportError
at once (20_memory.md R54); a transaction that never completes leaves the block busy (R53). -/
def bus (op : BusOp) (s : State) (k : Word16 → State → State) : State :=
  match issue s op with
  | (.done w, s') => k w s'
  | (.failed, s') => s'.raise .transportError
  | (.pending, s') => s'.hang

/-- `BitRead(off, i)` (20_memory.md R52). -/
def bitRead (off : Byte) (i : Fin 8) (s : State) (k : Bool → State → State) : State :=
  bus (.bitRead off i) s fun w s' => k (w.getLsbD 0) s'

/-- `BitWrite(off, i, b)` (20_memory.md R52). -/
def bitWrite (off : Byte) (i : Fin 8) (b : Bool) (s : State) (k : State → State) : State :=
  bus (.bitWrite off i b) s fun _ s' => k s'

/-- `MemRead(off, 2)` (20_memory.md R52). -/
def memRead (off : Byte) (s : State) (k : Word16 → State → State) : State :=
  bus (.memRead off) s k

/-- `MemWrite(off, 2, [w[15:8], w[7:0]])` (20_memory.md R52, R57). -/
def memWrite (off : Byte) (w : Word16) (s : State) (k : State → State) : State :=
  bus (.memWrite off w) s fun _ s' => k s'

/-- A GET or SET command: the request is accepted, the channel test comes first (30_encoding.md R85 test 2, 60_exceptions.md R243), then the body. -/
def channelCommand (ch : BitVec 3) (s : State) (body : Channel → State → State) :
    Host.Outcome State Fault Refusal :=
  .next (match channelOf ch with
    | some c => body c s.accept
    | none => s.accept.raise .invalidChannel)

/-- A kernel command: its response is a function of the request record, and of the parameters, alone (40_field_codec.md R110). -/
def kernelCommand (s : State) (f : Params → Request → Result) : Host.Outcome State Fault Refusal :=
  .next (s.accept.respond (f s.params s.req))

end Sys2Proof.Machine
end

