-- ==== Sys2Proof/Machine/CodecKernels.lean ====
section
/-! DEFINITION. The nine field codec kernels (40_field_codec.md R120 to R128): pure functions of the request record (R110). -/

namespace Sys2Proof.Machine

/-- A natural number as a result. -/
def okNat (n : Nat) : Result := .ok (n : Rat)

/-- `KDEC.MODE` (R120). -/
def execKdecMode (s : State) : Host.Outcome State Fault Refusal :=
  kernelCommand s fun _ r => okNat (decMode r.wbyte).toNat

/-- `KDEC.SR` (R121). -/
def execKdecSr (s : State) : Host.Outcome State Fault Refusal :=
  kernelCommand s fun p r =>
    match decSR p.srUnmatched r.wbyte with
    | .ok sr => okNat sr
    | .error st => .error st

/-- `KDEC.DUTY` (R122). -/
def execKdecDuty (s : State) : Host.Outcome State Fault Refusal :=
  kernelCommand s fun _ r => okNat (decDuty r.wword).toNat

/-- `KDEC.TACH` (R123): 0 and 2047 are plain numbers here. -/
def execKdecTach (s : State) : Host.Outcome State Fault Refusal :=
  kernelCommand s fun _ r => okNat (decTach r.wword).toNat

/-- `KENC.SR` (R124). -/
def execKencSr (s : State) : Host.Outcome State Fault Refusal :=
  kernelCommand s fun _ r =>
    match encSR r.wnum with
    | .ok c => okNat c.toNat
    | .error st => .error st

/-- `KENC.DUTY` (R125): the register word as an integer. -/
def execKencDuty (s : State) : Host.Outcome State Fault Refusal :=
  kernelCommand s fun _ r =>
    match encDuty r.wnum with
    | .ok w => okNat w.toNat
    | .error st => .error st

/-- `KENC.TACH` (R126): the register word as an integer. -/
def execKencTach (s : State) : Host.Outcome State Fault Refusal :=
  kernelCommand s fun _ r =>
    match encTach r.wnum with
    | .ok w => okNat w.toNat
    | .error st => .error st

/-- The operand check of the speed-target kernels (R127, R128). -/
def legalTgtOperands (r : Request) : Bool := legalSr r.ksr.toNat && legalCal r.kppr

/-- `KTGT.ENC` (R127): the raw target, not the register word. -/
def execKtgtEnc (s : State) : Host.Outcome State Fault Refusal :=
  kernelCommand s fun _ r =>
    if legalTgtOperands r then
      match tgtEnc r.wnum r.ksr.toNat r.kppr.toNat with
      | .ok t => okNat t
      | .error st => .error st
    else .error .invalidArgument

/-- `KTGT.DEC` (R128). -/
def execKtgtDec (s : State) : Host.Outcome State Fault Refusal :=
  kernelCommand s fun p r =>
    if legalTgtOperands r then tgtDec p.tgtSentinelDecode r.kcount r.ksr.toNat r.kppr.toNat
    else .error .invalidArgument

end Sys2Proof.Machine
end

