-- ==== Sys2Proof/Syntax.lean ====
section
/-! DEFINITION. The 60 commands of TUC-OPS version 1 (30_encoding.md R84, opcode_table.json), one constructor per row. The
only operand inside a command word is the channel id `ch` of GET and SET (R80); the operands that do not fit the word travel
beside it in the request record (10_state.md R30) and are read from there by the meaning. -/

namespace Sys2Proof

/-- The 15 rate tags, whose value derives from pulsesPerSecond (00_scope.md R19), in the source's order. -/
inductive RateTag where
  | pps | ppm | pph
  | rps | rpm | rph
  | m3ps | m3pm | m3ph
  | lps | lpm | lph
  | gps | gpm | gph
  deriving DecidableEq, Repr

/-- One command. `ch` is the channel field as it stands in the word: all eight values are encodable, 1 to 6 are legal, and a GET or
SET with another one answers InvalidChannel (60_exceptions.md R243). -/
inductive Instr where
  /-- `GET.PWM ch`, CW 0x0000 + ch (R165). -/
  | getPwm (ch : BitVec 3)
  /-- `GET.SPD ch`, CW 0x0100 + ch (R166). -/
  | getSpd (ch : BitVec 3)
  /-- `GET.SR ch`, CW 0x0200 + ch (R167). -/
  | getSr (ch : BitVec 3)
  /-- `GET.PPR ch`, CW 0x0300 + ch (R168). -/
  | getPpr (ch : BitVec 3)
  /-- `GET.PPM3 ch`, CW 0x0400 + ch (R169). -/
  | getPpm3 (ch : BitVec 3)
  /-- `GET.PPL ch`, CW 0x0500 + ch (R170). -/
  | getPpl (ch : BitVec 3)
  /-- `GET.PPG ch`, CW 0x0600 + ch (R171). -/
  | getPpg (ch : BitVec 3)
  /-- `GET.TAC ch`, CW 0x0700 + ch (R172). -/
  | getTac (ch : BitVec 3)
  /-- `GET.PPS ch`, CW 0x0800 + ch (R173). -/
  | getPps (ch : BitVec 3)
  /-- `GET.PPM ch`, CW 0x0900 + ch (R174). -/
  | getPpm (ch : BitVec 3)
  /-- `GET.PPH ch`, CW 0x0A00 + ch (R175). -/
  | getPph (ch : BitVec 3)
  /-- `GET.RPS ch`, CW 0x0B00 + ch (R176). -/
  | getRps (ch : BitVec 3)
  /-- `GET.RPM ch`, CW 0x0C00 + ch (R177). -/
  | getRpm (ch : BitVec 3)
  /-- `GET.RPH ch`, CW 0x0D00 + ch (R178). -/
  | getRph (ch : BitVec 3)
  /-- `GET.M3PS ch`, CW 0x0E00 + ch (R179). -/
  | getM3ps (ch : BitVec 3)
  /-- `GET.M3PM ch`, CW 0x0F00 + ch (R180). -/
  | getM3pm (ch : BitVec 3)
  /-- `GET.M3PH ch`, CW 0x1000 + ch (R181). -/
  | getM3ph (ch : BitVec 3)
  /-- `GET.LPS ch`, CW 0x1100 + ch (R182). -/
  | getLps (ch : BitVec 3)
  /-- `GET.LPM ch`, CW 0x1200 + ch (R183). -/
  | getLpm (ch : BitVec 3)
  /-- `GET.LPH ch`, CW 0x1300 + ch (R184). -/
  | getLph (ch : BitVec 3)
  /-- `GET.GPS ch`, CW 0x1400 + ch (R185). -/
  | getGps (ch : BitVec 3)
  /-- `GET.GPM ch`, CW 0x1500 + ch (R186). -/
  | getGpm (ch : BitVec 3)
  /-- `GET.GPH ch`, CW 0x1600 + ch (R187). -/
  | getGph (ch : BitVec 3)
  /-- `GET.MODE ch`, CW 0x2000 + ch (R188). -/
  | getMode (ch : BitVec 3)
  /-- `GET.TGT ch`, CW 0x2100 + ch (R189). -/
  | getTgt (ch : BitVec 3)
  /-- `GET.AT ch`, CW 0x2200 + ch (R190). -/
  | getAt (ch : BitVec 3)
  /-- `SET.PWM ch`, CW 0x4000 + ch (R201). -/
  | setPwm (ch : BitVec 3)
  /-- `SET.SR ch`, CW 0x4200 + ch (R202). -/
  | setSr (ch : BitVec 3)
  /-- `SET.PPR ch`, CW 0x4300 + ch (R203). -/
  | setPpr (ch : BitVec 3)
  /-- `SET.PPM3 ch`, CW 0x4400 + ch (R204). -/
  | setPpm3 (ch : BitVec 3)
  /-- `SET.MODE ch`, CW 0x6000 + ch (R205). -/
  | setMode (ch : BitVec 3)
  /-- `SET.TGT ch`, CW 0x6100 + ch (R206). -/
  | setTgt (ch : BitVec 3)
  /-- `SET.AT ch`, CW 0x6200 + ch (R207). -/
  | setAt (ch : BitVec 3)
  /-- `KCONV.SPD`, CW 0x8100 (R135). -/
  | kconvSpd
  /-- `KCONV.PPL`, CW 0x8500 (R136). -/
  | kconvPpl
  /-- `KCONV.PPG`, CW 0x8600 (R137). -/
  | kconvPpg
  /-- `KCONV.PPS`, CW 0x8800 (R138). -/
  | kconvPps
  /-- `KCONV.PPM`, CW 0x8900 (R139). -/
  | kconvPpm
  /-- `KCONV.PPH`, CW 0x8A00 (R140). -/
  | kconvPph
  /-- `KCONV.RPS`, CW 0x8B00 (R141). -/
  | kconvRps
  /-- `KCONV.RPM`, CW 0x8C00 (R142). -/
  | kconvRpm
  /-- `KCONV.RPH`, CW 0x8D00 (R143). -/
  | kconvRph
  /-- `KCONV.M3PS`, CW 0x8E00 (R144). -/
  | kconvM3ps
  /-- `KCONV.M3PM`, CW 0x8F00 (R145). -/
  | kconvM3pm
  /-- `KCONV.M3PH`, CW 0x9000 (R146). -/
  | kconvM3ph
  /-- `KCONV.LPS`, CW 0x9100 (R147). -/
  | kconvLps
  /-- `KCONV.LPM`, CW 0x9200 (R148). -/
  | kconvLpm
  /-- `KCONV.LPH`, CW 0x9300 (R149). -/
  | kconvLph
  /-- `KCONV.GPS`, CW 0x9400 (R150). -/
  | kconvGps
  /-- `KCONV.GPM`, CW 0x9500 (R151). -/
  | kconvGpm
  /-- `KCONV.GPH`, CW 0x9600 (R152). -/
  | kconvGph
  /-- `KDEC.MODE`, CW 0xA000 (R120). -/
  | kdecMode
  /-- `KDEC.SR`, CW 0xA100 (R121). -/
  | kdecSr
  /-- `KDEC.DUTY`, CW 0xA200 (R122). -/
  | kdecDuty
  /-- `KDEC.TACH`, CW 0xA300 (R123). -/
  | kdecTach
  /-- `KENC.SR`, CW 0xA400 (R124). -/
  | kencSr
  /-- `KENC.DUTY`, CW 0xA500 (R125). -/
  | kencDuty
  /-- `KENC.TACH`, CW 0xA600 (R126). -/
  | kencTach
  /-- `KTGT.ENC`, CW 0xA700 (R127). -/
  | ktgtEnc
  /-- `KTGT.DEC`, CW 0xA800 (R128). -/
  | ktgtDec
  deriving DecidableEq, Repr

end Sys2Proof
end

