-- ==== Sys2Proof/Machine/Conversion.lean ====
section
/-! DEFINITION. The unit conversion functions on exact rationals (41_unit_conversion.md R130 to R152), called by the kernels and by the GET commands. -/

namespace Sys2Proof.Machine

/-- Pps (R132): NoSignal for a count of 0 or 2047, else `sr * 8192 / count`. -/
def pps (count : BitVec 11) (sr : Nat) : Except Status Rat :=
  if count.toNat = 0 ∨ count.toNat = tachSat then .error .noSignal
  else .ok (((sr * kclk : Nat) : Rat) / (count.toNat : Rat))

/-- Duty cycle in percent (R135): `raw * 100 / 511`. -/
def percentOf (raw : Nat) : Rat := (raw : Rat) * 100 / 511

/-- Pulses per litre (R136): `ppm3 / 1000`, exact division. -/
def pulsesPerLitre (ppm3 : Nat) : Rat := (ppm3 : Rat) / 1000

/-- Pulses per US liquid gallon (R137): `ppm3 * 3785411784 / 10^12`. -/
def pulsesPerGallon (ppm3 : Nat) : Rat := (ppm3 : Rat) * gal

/-- The value of a rate tag from pulses per second (R138 to R152; a calibration value of 0 is in no reachable state, log 18). -/
def rateValue (tag : RateTag) (p : Rat) (ppr ppm3 : Nat) : Rat :=
  match tag with
  | .pps => p
  | .ppm => 60 * p
  | .pph => 3600 * p
  | .rps => p / (ppr : Rat)
  | .rpm => 60 * p / (ppr : Rat)
  | .rph => 3600 * p / (ppr : Rat)
  | .m3ps => p / (ppm3 : Rat)
  | .m3pm => 60 * p / (ppm3 : Rat)
  | .m3ph => 3600 * p / (ppm3 : Rat)
  | .lps => p / pulsesPerLitre ppm3
  | .lpm => 60 * (p / pulsesPerLitre ppm3)
  | .lph => 3600 * (p / pulsesPerLitre ppm3)
  | .gps => p / pulsesPerGallon ppm3
  | .gpm => 60 * (p / pulsesPerGallon ppm3)
  | .gph => 3600 * (p / pulsesPerGallon ppm3)

/-- Conv (R134). -/
def conv (tag : RateTag) (count : BitVec 11) (sr ppr ppm3 : Nat) : Result :=
  match pps count sr with
  | .error st => .error st
  | .ok p => .ok (rateValue tag p ppr ppm3)

/-- Whether the kernel of a tag reads KPPR (R133). -/
def readsPpr : RateTag → Bool
  | .rps => true
  | .rpm => true
  | .rph => true
  | .pps => false
  | .ppm => false
  | .pph => false
  | .m3ps => false
  | .m3pm => false
  | .m3ph => false
  | .lps => false
  | .lpm => false
  | .lph => false
  | .gps => false
  | .gpm => false
  | .gph => false

/-- Whether the kernel of a tag reads KPPM3 (R133). -/
def readsPpm3 : RateTag → Bool
  | .m3ps => true
  | .m3pm => true
  | .m3ph => true
  | .lps => true
  | .lpm => true
  | .lph => true
  | .gps => true
  | .gpm => true
  | .gph => true
  | .pps => false
  | .ppm => false
  | .pph => false
  | .rps => false
  | .rpm => false
  | .rph => false

end Sys2Proof.Machine
end

