-- ==== Sys2Proof/Machine/ConversionKernels.lean ====
section
/-! DEFINITION. The 18 conversion kernels (41_unit_conversion.md R133, R135 to R152). -/

namespace Sys2Proof.Machine

/-- The operand check of a rate kernel: every operand it reads is legal, and the others are ignored (R133). -/
def legalRateOperands (tag : RateTag) (r : Request) : Bool :=
  legalSr r.ksr.toNat && (!readsPpr tag || legalCal r.kppr) && (!readsPpm3 tag || legalCal r.kppm3)

/-- A rate kernel: illegal operands first, then NoSignal, then the value (R133). -/
def rateKernel (tag : RateTag) (r : Request) : Result :=
  if legalRateOperands tag r then conv tag r.kcount r.ksr.toNat r.kppr.toNat r.kppm3.toNat
  else .error .invalidArgument

/-- `KCONV.SPD` (R135). -/
def execKconvSpd (s : State) : Host.Outcome State Fault Refusal :=
  kernelCommand s fun _ r => if r.wnum > 511 then .error .invalidArgument else .ok (percentOf r.wnum)

/-- `KCONV.PPL` (R136). -/
def execKconvPpl (s : State) : Host.Outcome State Fault Refusal :=
  kernelCommand s fun _ r =>
    if legalCal r.kppm3 then .ok (pulsesPerLitre r.kppm3.toNat) else .error .invalidArgument

/-- `KCONV.PPG` (R137). -/
def execKconvPpg (s : State) : Host.Outcome State Fault Refusal :=
  kernelCommand s fun _ r =>
    if legalCal r.kppm3 then .ok (pulsesPerGallon r.kppm3.toNat) else .error .invalidArgument

/-- `KCONV.PPS` (R138). -/
def execKconvPps (s : State) : Host.Outcome State Fault Refusal :=
  kernelCommand s fun _ r => rateKernel .pps r

/-- `KCONV.PPM` (R139). -/
def execKconvPpm (s : State) : Host.Outcome State Fault Refusal :=
  kernelCommand s fun _ r => rateKernel .ppm r

/-- `KCONV.PPH` (R140). -/
def execKconvPph (s : State) : Host.Outcome State Fault Refusal :=
  kernelCommand s fun _ r => rateKernel .pph r

/-- `KCONV.RPS` (R141). -/
def execKconvRps (s : State) : Host.Outcome State Fault Refusal :=
  kernelCommand s fun _ r => rateKernel .rps r

/-- `KCONV.RPM` (R142). -/
def execKconvRpm (s : State) : Host.Outcome State Fault Refusal :=
  kernelCommand s fun _ r => rateKernel .rpm r

/-- `KCONV.RPH` (R143). -/
def execKconvRph (s : State) : Host.Outcome State Fault Refusal :=
  kernelCommand s fun _ r => rateKernel .rph r

/-- `KCONV.M3PS` (R144). -/
def execKconvM3ps (s : State) : Host.Outcome State Fault Refusal :=
  kernelCommand s fun _ r => rateKernel .m3ps r

/-- `KCONV.M3PM` (R145). -/
def execKconvM3pm (s : State) : Host.Outcome State Fault Refusal :=
  kernelCommand s fun _ r => rateKernel .m3pm r

/-- `KCONV.M3PH` (R146). -/
def execKconvM3ph (s : State) : Host.Outcome State Fault Refusal :=
  kernelCommand s fun _ r => rateKernel .m3ph r

/-- `KCONV.LPS` (R147). -/
def execKconvLps (s : State) : Host.Outcome State Fault Refusal :=
  kernelCommand s fun _ r => rateKernel .lps r

/-- `KCONV.LPM` (R148). -/
def execKconvLpm (s : State) : Host.Outcome State Fault Refusal :=
  kernelCommand s fun _ r => rateKernel .lpm r

/-- `KCONV.LPH` (R149). -/
def execKconvLph (s : State) : Host.Outcome State Fault Refusal :=
  kernelCommand s fun _ r => rateKernel .lph r

/-- `KCONV.GPS` (R150). -/
def execKconvGps (s : State) : Host.Outcome State Fault Refusal :=
  kernelCommand s fun _ r => rateKernel .gps r

/-- `KCONV.GPM` (R151). -/
def execKconvGpm (s : State) : Host.Outcome State Fault Refusal :=
  kernelCommand s fun _ r => rateKernel .gpm r

/-- `KCONV.GPH` (R152). -/
def execKconvGph (s : State) : Host.Outcome State Fault Refusal :=
  kernelCommand s fun _ r => rateKernel .gph r

end Sys2Proof.Machine
end

