-- ==== Sys2Proof/Machine/GetCommands.lean ====
section
/-! DEFINITION. The 26 GET commands (42_get_commands.md). A GET reads no request field but CW, writes neither the bus nor the calibration state (R160), and issues
exactly the transactions its rule lists, in that order (20_memory.md R65). -/

namespace Sys2Proof.Machine

/-! Common parts (R161 to R164). -/

/-- `s2 * 128 + s1 * 64 + s0 * 32`, the Fan dynamics byte as the three bit reads show it (R161). -/
def srByte (s2 s1 s0 : Bool) : Byte := BitVec.ofNat 8 (s2.toNat * 128 + s1.toNat * 64 + s0.toNat * 32)

/-- ReadSR (R161): three bit reads in the order 7, 6, 5, then the code is judged; UnrecognizedEncoding ends the command. -/
def readSR (c : Channel) (s : State) (k : Nat → State → State) : State :=
  bitRead (offDyn c) 7 s fun s2 s =>
  bitRead (offDyn c) 6 s fun s1 s =>
  bitRead (offDyn c) 5 s fun s0 s =>
  match decSR s.params.srUnmatched (srByte s2 s1 s0) with
  | .ok sr => k sr s
  | .error st => s.raise st

/-- ReadTach (R162). -/
def readTach (c : Channel) (s : State) (k : BitVec 11 → State → State) : State :=
  memRead (offTach c) s fun w s => k (decTach w) s

/-- ReadDuty (R163). -/
def readDuty (c : Channel) (s : State) (k : BitVec 9 → State → State) : State :=
  memRead (offDutyRd s.params.dutyRdBase c) s fun w s => k (decDuty w) s

/-- `PPR[ch]` as a number (10_state.md R21). -/
def pprOf (s : State) (c : Channel) : Nat := (s.ppr.get c).toNat

/-- `PPM3[ch]` as a number (10_state.md R22). -/
def ppm3Of (s : State) (c : Channel) : Nat := (s.ppm3.get c).toNat

/-- RateGet (R164): the count first; 0 and 2047 end the command with NoSignal before the speed range is read. -/
def rateGet (tag : RateTag) (c : Channel) (s : State) : State :=
  readTach c s fun t s =>
  if t.toNat = 0 ∨ t.toNat = tachSat then s.raise .noSignal
  else readSR c s fun sr s => s.respond (conv tag t sr (pprOf s c) (ppm3Of s c))

/-! Duty cycle, speed range, calibration, raw count (R165 to R172). -/

/-- `GET.PWM` (R165). -/
def execGetPwm (ch : BitVec 3) (s : State) : Host.Outcome State Fault Refusal :=
  channelCommand ch s fun c s => readDuty c s fun d s => s.ok (d.toNat : Rat)

/-- `GET.SPD` (R166). -/
def execGetSpd (ch : BitVec 3) (s : State) : Host.Outcome State Fault Refusal :=
  channelCommand ch s fun c s => readDuty c s fun d s => s.ok (percentOf d.toNat)

/-- `GET.SR` (R167). -/
def execGetSr (ch : BitVec 3) (s : State) : Host.Outcome State Fault Refusal :=
  channelCommand ch s fun c s => readSR c s fun sr s => s.ok (sr : Rat)

/-- `GET.PPR` (R168). -/
def execGetPpr (ch : BitVec 3) (s : State) : Host.Outcome State Fault Refusal :=
  channelCommand ch s fun c s => s.ok (pprOf s c : Rat)

/-- `GET.PPM3` (R169). -/
def execGetPpm3 (ch : BitVec 3) (s : State) : Host.Outcome State Fault Refusal :=
  channelCommand ch s fun c s => s.ok (ppm3Of s c : Rat)

/-- `GET.PPL` (R170). -/
def execGetPpl (ch : BitVec 3) (s : State) : Host.Outcome State Fault Refusal :=
  channelCommand ch s fun c s => s.ok (pulsesPerLitre (ppm3Of s c))

/-- `GET.PPG` (R171). -/
def execGetPpg (ch : BitVec 3) (s : State) : Host.Outcome State Fault Refusal :=
  channelCommand ch s fun c s => s.ok (pulsesPerGallon (ppm3Of s c))

/-- `GET.TAC` (R172): the raw count, 0 and 2047 as plain numbers. -/
def execGetTac (ch : BitVec 3) (s : State) : Host.Outcome State Fault Refusal :=
  channelCommand ch s fun c s => readTach c s fun t s => s.ok (t.toNat : Rat)

/-! The 15 rate tags (R173 to R187). -/

/-- `GET.PPS` (R173). -/
def execGetPps (ch : BitVec 3) (s : State) : Host.Outcome State Fault Refusal :=
  channelCommand ch s (rateGet .pps)

/-- `GET.PPM` (R174). -/
def execGetPpm (ch : BitVec 3) (s : State) : Host.Outcome State Fault Refusal :=
  channelCommand ch s (rateGet .ppm)

/-- `GET.PPH` (R175). -/
def execGetPph (ch : BitVec 3) (s : State) : Host.Outcome State Fault Refusal :=
  channelCommand ch s (rateGet .pph)

/-- `GET.RPS` (R176). -/
def execGetRps (ch : BitVec 3) (s : State) : Host.Outcome State Fault Refusal :=
  channelCommand ch s (rateGet .rps)

/-- `GET.RPM` (R177). -/
def execGetRpm (ch : BitVec 3) (s : State) : Host.Outcome State Fault Refusal :=
  channelCommand ch s (rateGet .rpm)

/-- `GET.RPH` (R178). -/
def execGetRph (ch : BitVec 3) (s : State) : Host.Outcome State Fault Refusal :=
  channelCommand ch s (rateGet .rph)

/-- `GET.M3PS` (R179). -/
def execGetM3ps (ch : BitVec 3) (s : State) : Host.Outcome State Fault Refusal :=
  channelCommand ch s (rateGet .m3ps)

/-- `GET.M3PM` (R180). -/
def execGetM3pm (ch : BitVec 3) (s : State) : Host.Outcome State Fault Refusal :=
  channelCommand ch s (rateGet .m3pm)

/-- `GET.M3PH` (R181). -/
def execGetM3ph (ch : BitVec 3) (s : State) : Host.Outcome State Fault Refusal :=
  channelCommand ch s (rateGet .m3ph)

/-- `GET.LPS` (R182). -/
def execGetLps (ch : BitVec 3) (s : State) : Host.Outcome State Fault Refusal :=
  channelCommand ch s (rateGet .lps)

/-- `GET.LPM` (R183). -/
def execGetLpm (ch : BitVec 3) (s : State) : Host.Outcome State Fault Refusal :=
  channelCommand ch s (rateGet .lpm)

/-- `GET.LPH` (R184). -/
def execGetLph (ch : BitVec 3) (s : State) : Host.Outcome State Fault Refusal :=
  channelCommand ch s (rateGet .lph)

/-- `GET.GPS` (R185). -/
def execGetGps (ch : BitVec 3) (s : State) : Host.Outcome State Fault Refusal :=
  channelCommand ch s (rateGet .gps)

/-- `GET.GPM` (R186). -/
def execGetGpm (ch : BitVec 3) (s : State) : Host.Outcome State Fault Refusal :=
  channelCommand ch s (rateGet .gpm)

/-- `GET.GPH` (R187). -/
def execGetGph (ch : BitVec 3) (s : State) : Host.Outcome State Fault Refusal :=
  channelCommand ch s (rateGet .gph)

/-! Named reads without a unit tag (R188 to R190). -/

/-- `GET.MODE` (R188). -/
def execGetMode (ch : BitVec 3) (s : State) : Host.Outcome State Fault Refusal :=
  channelCommand ch s fun c s => bitRead (offCfg c) 7 s fun b s => s.ok (b.toNat : Rat)

/-- The rest of `GET.TGT` once the raw target is known (R189): the speed range is read only when the target needs it. -/
def targetGet (c : Channel) (t : BitVec 11) (s : State) : State :=
  if t.toNat = 0 then s.raise .noSignal
  else if t.toNat = tachSat ∧ s.params.tgtSentinelDecode = .zero then s.ok 0
  else readSR c s fun sr s => s.respond (tgtDec s.params.tgtSentinelDecode t sr (pprOf s c))

/-- `GET.TGT` (R189): the speed range and PPR used are the current ones. -/
def execGetTgt (ch : BitVec 3) (s : State) : Host.Outcome State Fault Refusal :=
  channelCommand ch s fun c s => memRead (offTgt c) s fun w s => targetGet c (decTach w) s

/-- `GET.AT` (R190). -/
def execGetAt (ch : BitVec 3) (s : State) : Host.Outcome State Fault Refusal :=
  channelCommand ch s fun c s => s.ok ((s.atEn.get c).toNat : Rat)

end Sys2Proof.Machine
end

