-- ==== Sys2Proof/Machine/SetCommands.lean ====
section
/-! DEFINITION. The 7 SET commands (43_set_commands.md): the operand is checked before the bus or the state is touched, and an OK answers 0 (R200). -/

namespace Sys2Proof.Machine

/-- Continue with an encoded field, or raise the status the encoding gives. -/
def withEncoded {α : Type} (e : Except Status α) (s : State) (k : α → State) : State :=
  match e with
  | .ok v => k v
  | .error st => s.raise st

/-- `SET.PWM` (R201): the register is always PWM out / duty set. -/
def execSetPwm (ch : BitVec 3) (s : State) : Host.Outcome State Fault Refusal :=
  channelCommand ch s fun c s =>
    withEncoded (encDuty s.req.wnum) s fun w => memWrite (offDutySet c) w s fun s => s.ok 0

/-- `SET.SR` (R202): three bit writes in the order 7, 6, 5. -/
def execSetSr (ch : BitVec 3) (s : State) : Host.Outcome State Fault Refusal :=
  channelCommand ch s fun c s =>
    withEncoded (encSR s.req.wnum) s fun code =>
      bitWrite (offDyn c) 7 (code.getLsbD 2) s fun s =>
      bitWrite (offDyn c) 6 (code.getLsbD 1) s fun s =>
      bitWrite (offDyn c) 5 (code.getLsbD 0) s fun s => s.ok 0

/-- `SET.PPR` (R203). -/
def execSetPpr (ch : BitVec 3) (s : State) : Host.Outcome State Fault Refusal :=
  channelCommand ch s fun c s =>
    if legalCal s.req.wdata then ({ s with ppr := s.ppr.set c s.req.wdata } : State).ok 0
    else s.raise .invalidArgument

/-- `SET.PPM3` (R204). -/
def execSetPpm3 (ch : BitVec 3) (s : State) : Host.Outcome State Fault Refusal :=
  channelCommand ch s fun c s =>
    if legalCal s.req.wdata then ({ s with ppm3 := s.ppm3.set c s.req.wdata } : State).ok 0
    else s.raise .invalidArgument

/-- `SET.MODE` (R205): bit 0 of WDATA, the others ignored. -/
def execSetMode (ch : BitVec 3) (s : State) : Host.Outcome State Fault Refusal :=
  channelCommand ch s fun c s => bitWrite (offCfg c) 7 s.req.wbit s fun s => s.ok 0

/-- The sentinel's register word, bytes 0xFF 0xE0 (30_encoding.md R93). -/
def sentinelWord : Word16 := 0xFFE0

/-- `SET.TGT` (R206): `rpm = 0` writes the sentinel without reading the speed range; otherwise the target is computed from the current speed range and
`PPR[ch]`, and nothing is written when it is not 1 to 2046. -/
def execSetTgt (ch : BitVec 3) (s : State) : Host.Outcome State Fault Refusal :=
  channelCommand ch s fun c s =>
    if s.req.wnum = 0 then memWrite (offTgt c) sentinelWord s fun s => s.ok 0
    else readSR c s fun sr s =>
      withEncoded (tgtEnc s.req.wnum sr (pprOf s c)) s fun t =>
      withEncoded (encTach t) s fun w => memWrite (offTgt c) w s fun s => s.ok 0

/-- `SET.AT` (R207): bit 0 of WDATA, the others ignored. -/
def execSetAt (ch : BitVec 3) (s : State) : Host.Outcome State Fault Refusal :=
  channelCommand ch s fun c s => ({ s with atEn := s.atEn.set c s.req.wbit } : State).ok 0

end Sys2Proof.Machine
end

