-- ==== Sys2Proof/Machine/Dispatch.lean ====
section
/-! DEFINITION. exec: one arm per command of 30_encoding.md R84, each a direct call of its meaning. -/

namespace Sys2Proof.Machine

-- The meaning of one command, from acceptance of the request to delivery of the response (00_scope.md R17).
def exec (i : Instr) (s : State) : Host.Outcome State Fault Refusal :=
  match i with
  | .getPwm ch => Sys2Proof.Machine.execGetPwm ch s
  | .getSpd ch => Sys2Proof.Machine.execGetSpd ch s
  | .getSr ch => Sys2Proof.Machine.execGetSr ch s
  | .getPpr ch => Sys2Proof.Machine.execGetPpr ch s
  | .getPpm3 ch => Sys2Proof.Machine.execGetPpm3 ch s
  | .getPpl ch => Sys2Proof.Machine.execGetPpl ch s
  | .getPpg ch => Sys2Proof.Machine.execGetPpg ch s
  | .getTac ch => Sys2Proof.Machine.execGetTac ch s
  | .getPps ch => Sys2Proof.Machine.execGetPps ch s
  | .getPpm ch => Sys2Proof.Machine.execGetPpm ch s
  | .getPph ch => Sys2Proof.Machine.execGetPph ch s
  | .getRps ch => Sys2Proof.Machine.execGetRps ch s
  | .getRpm ch => Sys2Proof.Machine.execGetRpm ch s
  | .getRph ch => Sys2Proof.Machine.execGetRph ch s
  | .getM3ps ch => Sys2Proof.Machine.execGetM3ps ch s
  | .getM3pm ch => Sys2Proof.Machine.execGetM3pm ch s
  | .getM3ph ch => Sys2Proof.Machine.execGetM3ph ch s
  | .getLps ch => Sys2Proof.Machine.execGetLps ch s
  | .getLpm ch => Sys2Proof.Machine.execGetLpm ch s
  | .getLph ch => Sys2Proof.Machine.execGetLph ch s
  | .getGps ch => Sys2Proof.Machine.execGetGps ch s
  | .getGpm ch => Sys2Proof.Machine.execGetGpm ch s
  | .getGph ch => Sys2Proof.Machine.execGetGph ch s
  | .getMode ch => Sys2Proof.Machine.execGetMode ch s
  | .getTgt ch => Sys2Proof.Machine.execGetTgt ch s
  | .getAt ch => Sys2Proof.Machine.execGetAt ch s
  | .setPwm ch => Sys2Proof.Machine.execSetPwm ch s
  | .setSr ch => Sys2Proof.Machine.execSetSr ch s
  | .setPpr ch => Sys2Proof.Machine.execSetPpr ch s
  | .setPpm3 ch => Sys2Proof.Machine.execSetPpm3 ch s
  | .setMode ch => Sys2Proof.Machine.execSetMode ch s
  | .setTgt ch => Sys2Proof.Machine.execSetTgt ch s
  | .setAt ch => Sys2Proof.Machine.execSetAt ch s
  | .kconvSpd => Sys2Proof.Machine.execKconvSpd s
  | .kconvPpl => Sys2Proof.Machine.execKconvPpl s
  | .kconvPpg => Sys2Proof.Machine.execKconvPpg s
  | .kconvPps => Sys2Proof.Machine.execKconvPps s
  | .kconvPpm => Sys2Proof.Machine.execKconvPpm s
  | .kconvPph => Sys2Proof.Machine.execKconvPph s
  | .kconvRps => Sys2Proof.Machine.execKconvRps s
  | .kconvRpm => Sys2Proof.Machine.execKconvRpm s
  | .kconvRph => Sys2Proof.Machine.execKconvRph s
  | .kconvM3ps => Sys2Proof.Machine.execKconvM3ps s
  | .kconvM3pm => Sys2Proof.Machine.execKconvM3pm s
  | .kconvM3ph => Sys2Proof.Machine.execKconvM3ph s
  | .kconvLps => Sys2Proof.Machine.execKconvLps s
  | .kconvLpm => Sys2Proof.Machine.execKconvLpm s
  | .kconvLph => Sys2Proof.Machine.execKconvLph s
  | .kconvGps => Sys2Proof.Machine.execKconvGps s
  | .kconvGpm => Sys2Proof.Machine.execKconvGpm s
  | .kconvGph => Sys2Proof.Machine.execKconvGph s
  | .kdecMode => Sys2Proof.Machine.execKdecMode s
  | .kdecSr => Sys2Proof.Machine.execKdecSr s
  | .kdecDuty => Sys2Proof.Machine.execKdecDuty s
  | .kdecTach => Sys2Proof.Machine.execKdecTach s
  | .kencSr => Sys2Proof.Machine.execKencSr s
  | .kencDuty => Sys2Proof.Machine.execKencDuty s
  | .kencTach => Sys2Proof.Machine.execKencTach s
  | .ktgtEnc => Sys2Proof.Machine.execKtgtEnc s
  | .ktgtDec => Sys2Proof.Machine.execKtgtDec s

end Sys2Proof.Machine
end

