-- ==== Sys2Proof/WellFormed.lean ====
section
/-! DEFINITION. Which commands are well formed: a GET or SET names a channel id in 1 to 6 (00_scope.md R7, 60_exceptions.md R243). A kernel has no
channel and is always well formed (40_field_codec.md R110). An ill-formed command is still a command: it answers InvalidChannel. -/

namespace Sys2Proof

/-- The channel field of a GET or SET; `none` for a kernel. -/
def Instr.channel : Instr → Option (BitVec 3)
  | .getPwm ch => some ch
  | .getSpd ch => some ch
  | .getSr ch => some ch
  | .getPpr ch => some ch
  | .getPpm3 ch => some ch
  | .getPpl ch => some ch
  | .getPpg ch => some ch
  | .getTac ch => some ch
  | .getPps ch => some ch
  | .getPpm ch => some ch
  | .getPph ch => some ch
  | .getRps ch => some ch
  | .getRpm ch => some ch
  | .getRph ch => some ch
  | .getM3ps ch => some ch
  | .getM3pm ch => some ch
  | .getM3ph ch => some ch
  | .getLps ch => some ch
  | .getLpm ch => some ch
  | .getLph ch => some ch
  | .getGps ch => some ch
  | .getGpm ch => some ch
  | .getGph ch => some ch
  | .getMode ch => some ch
  | .getTgt ch => some ch
  | .getAt ch => some ch
  | .setPwm ch => some ch
  | .setSr ch => some ch
  | .setPpr ch => some ch
  | .setPpm3 ch => some ch
  | .setMode ch => some ch
  | .setTgt ch => some ch
  | .setAt ch => some ch
  | .kconvSpd => none
  | .kconvPpl => none
  | .kconvPpg => none
  | .kconvPps => none
  | .kconvPpm => none
  | .kconvPph => none
  | .kconvRps => none
  | .kconvRpm => none
  | .kconvRph => none
  | .kconvM3ps => none
  | .kconvM3pm => none
  | .kconvM3ph => none
  | .kconvLps => none
  | .kconvLpm => none
  | .kconvLph => none
  | .kconvGps => none
  | .kconvGpm => none
  | .kconvGph => none
  | .kdecMode => none
  | .kdecSr => none
  | .kdecDuty => none
  | .kdecTach => none
  | .kencSr => none
  | .kencDuty => none
  | .kencTach => none
  | .ktgtEnc => none
  | .ktgtDec => none

/-- A channel id in 1 to 6. -/
def legalChannel (ch : BitVec 3) : Bool := ch != 0 && ch != 7

/-- Well formed: the channel, if the command has one, is legal. -/
def Instr.wellFormed (i : Instr) : Bool :=
  match i.channel with
  | none => true
  | some ch => legalChannel ch

end Sys2Proof
end

