-- ==== Sys2Proof/Decode.lean ====
section
/-! DEFINITION. Decoding and encoding the command word (30_encoding.md R80 to R86). `decode` is total on the 65536 words and rejects by name; `encode`
is written from the same tables. A GET or SET word with an accepted function code, `rsv = 0` and channel 0 or 7 decodes to its instruction,
whose meaning answers InvalidChannel; with another fault beside it, it is rejected as InvalidChannel here (R85 test 2; log 1, DEDUCED). -/

namespace Sys2Proof

/-- `cls`, bits 15:14 (R80): 0 = GET, 1 = SET, 2 = KRN, 3 = reserved. -/
def cwClass (cw : Word16) : BitVec 2 := cw.extractLsb' 14 2

/-- `fn`, bits 13:8 (R80). -/
def cwFn (cw : Word16) : BitVec 6 := cw.extractLsb' 8 6

/-- `rsv`, bits 7:3 (R80). -/
def cwRsv (cw : Word16) : BitVec 5 := cw.extractLsb' 3 5

/-- `ch`, bits 2:0 (R80). -/
def cwCh (cw : Word16) : BitVec 3 := cw.extractLsb' 0 3

/-- The GET command of a function code (R81, R82): the 23 tags and MODE, TGT, AT. -/
def getOfFn (fn : Nat) (ch : BitVec 3) : Option Instr :=
  match fn with
  | 0 => some (.getPwm ch)
  | 1 => some (.getSpd ch)
  | 2 => some (.getSr ch)
  | 3 => some (.getPpr ch)
  | 4 => some (.getPpm3 ch)
  | 5 => some (.getPpl ch)
  | 6 => some (.getPpg ch)
  | 7 => some (.getTac ch)
  | 8 => some (.getPps ch)
  | 9 => some (.getPpm ch)
  | 10 => some (.getPph ch)
  | 11 => some (.getRps ch)
  | 12 => some (.getRpm ch)
  | 13 => some (.getRph ch)
  | 14 => some (.getM3ps ch)
  | 15 => some (.getM3pm ch)
  | 16 => some (.getM3ph ch)
  | 17 => some (.getLps ch)
  | 18 => some (.getLpm ch)
  | 19 => some (.getLph ch)
  | 20 => some (.getGps ch)
  | 21 => some (.getGpm ch)
  | 22 => some (.getGph ch)
  | 32 => some (.getMode ch)
  | 33 => some (.getTgt ch)
  | 34 => some (.getAt ch)
  | _ => none

/-- The SET command of a function code (R82). -/
def setOfFn (fn : Nat) (ch : BitVec 3) : Option Instr :=
  match fn with
  | 0 => some (.setPwm ch)
  | 2 => some (.setSr ch)
  | 3 => some (.setPpr ch)
  | 4 => some (.setPpm3 ch)
  | 32 => some (.setMode ch)
  | 33 => some (.setTgt ch)
  | 34 => some (.setAt ch)
  | _ => none

/-- The kernel of a function code (R83). -/
def kernelOfFn (fn : Nat) : Option Instr :=
  match fn with
  | 1 => some .kconvSpd
  | 5 => some .kconvPpl
  | 6 => some .kconvPpg
  | 8 => some .kconvPps
  | 9 => some .kconvPpm
  | 10 => some .kconvPph
  | 11 => some .kconvRps
  | 12 => some .kconvRpm
  | 13 => some .kconvRph
  | 14 => some .kconvM3ps
  | 15 => some .kconvM3pm
  | 16 => some .kconvM3ph
  | 17 => some .kconvLps
  | 18 => some .kconvLpm
  | 19 => some .kconvLph
  | 20 => some .kconvGps
  | 21 => some .kconvGpm
  | 22 => some .kconvGph
  | 32 => some .kdecMode
  | 33 => some .kdecSr
  | 34 => some .kdecDuty
  | 35 => some .kdecTach
  | 36 => some .kencSr
  | 37 => some .kencDuty
  | 38 => some .kencTach
  | 39 => some .ktgtEnc
  | 40 => some .ktgtDec
  | _ => none

/-- The instruction a word names, if its class has the function code, its reserved bits are 0 and, for a kernel, its channel field is 0. -/
def instrOf (cw : Word16) : Option Instr :=
  if cwRsv cw ≠ 0 then none
  else match (cwClass cw).toNat with
    | 0 => getOfFn (cwFn cw).toNat (cwCh cw)
    | 1 => setOfFn (cwFn cw).toNat (cwCh cw)
    | 2 => if cwCh cw = 0 then kernelOfFn (cwFn cw).toNat else none
    | _ => none

/-- Why a word is rejected, one name per test of R85. -/
inductive Reject where
  /-- Test 1: `cls = 3`. Status InvalidArgument. -/
  | reservedClass
  /-- Test 2: a GET or SET with `ch` 0 or 7. Status InvalidChannel. -/
  | badChannel
  /-- Test 3: `rsv` is not 0. Status InvalidArgument. -/
  | reservedBits
  /-- Test 4: a kernel with `ch` not 0. Status InvalidArgument. -/
  | kernelChannel
  /-- Test 5: a function code the class does not accept, the source's unrecognized unit tag. Status InvalidArgument. -/
  | unrecognizedFn
  deriving DecidableEq, Repr

/-- The first test of R85 that applies to a word that names no instruction. -/
def rejectReason (cw : Word16) : Reject :=
  if cwClass cw = 3 then .reservedClass
  else if cwClass cw ≠ 2 ∧ legalChannel (cwCh cw) = false then .badChannel
  else if cwRsv cw ≠ 0 then .reservedBits
  else if cwClass cw = 2 ∧ cwCh cw ≠ 0 then .kernelChannel
  else .unrecognizedFn

/-- Decode a command word (R80 to R86): total, rejecting by name. -/
def decode (cw : Word16) : Except Reject Instr :=
  match instrOf cw with
  | some i => .ok i
  | none => .error (rejectReason cw)

/-! The encoder, from the same tables (R80 to R84). -/

/-- The class of a command. -/
def Instr.cls : Instr → BitVec 2
  | .getPwm _ => 0
  | .getSpd _ => 0
  | .getSr _ => 0
  | .getPpr _ => 0
  | .getPpm3 _ => 0
  | .getPpl _ => 0
  | .getPpg _ => 0
  | .getTac _ => 0
  | .getPps _ => 0
  | .getPpm _ => 0
  | .getPph _ => 0
  | .getRps _ => 0
  | .getRpm _ => 0
  | .getRph _ => 0
  | .getM3ps _ => 0
  | .getM3pm _ => 0
  | .getM3ph _ => 0
  | .getLps _ => 0
  | .getLpm _ => 0
  | .getLph _ => 0
  | .getGps _ => 0
  | .getGpm _ => 0
  | .getGph _ => 0
  | .getMode _ => 0
  | .getTgt _ => 0
  | .getAt _ => 0
  | .setPwm _ => 1
  | .setSr _ => 1
  | .setPpr _ => 1
  | .setPpm3 _ => 1
  | .setMode _ => 1
  | .setTgt _ => 1
  | .setAt _ => 1
  | .kconvSpd => 2
  | .kconvPpl => 2
  | .kconvPpg => 2
  | .kconvPps => 2
  | .kconvPpm => 2
  | .kconvPph => 2
  | .kconvRps => 2
  | .kconvRpm => 2
  | .kconvRph => 2
  | .kconvM3ps => 2
  | .kconvM3pm => 2
  | .kconvM3ph => 2
  | .kconvLps => 2
  | .kconvLpm => 2
  | .kconvLph => 2
  | .kconvGps => 2
  | .kconvGpm => 2
  | .kconvGph => 2
  | .kdecMode => 2
  | .kdecSr => 2
  | .kdecDuty => 2
  | .kdecTach => 2
  | .kencSr => 2
  | .kencDuty => 2
  | .kencTach => 2
  | .ktgtEnc => 2
  | .ktgtDec => 2

/-- The function code of a command (R81, R83). -/
def Instr.fn : Instr → BitVec 6
  | .getPwm _ => 0
  | .getSpd _ => 1
  | .getSr _ => 2
  | .getPpr _ => 3
  | .getPpm3 _ => 4
  | .getPpl _ => 5
  | .getPpg _ => 6
  | .getTac _ => 7
  | .getPps _ => 8
  | .getPpm _ => 9
  | .getPph _ => 10
  | .getRps _ => 11
  | .getRpm _ => 12
  | .getRph _ => 13
  | .getM3ps _ => 14
  | .getM3pm _ => 15
  | .getM3ph _ => 16
  | .getLps _ => 17
  | .getLpm _ => 18
  | .getLph _ => 19
  | .getGps _ => 20
  | .getGpm _ => 21
  | .getGph _ => 22
  | .getMode _ => 32
  | .getTgt _ => 33
  | .getAt _ => 34
  | .setPwm _ => 0
  | .setSr _ => 2
  | .setPpr _ => 3
  | .setPpm3 _ => 4
  | .setMode _ => 32
  | .setTgt _ => 33
  | .setAt _ => 34
  | .kconvSpd => 1
  | .kconvPpl => 5
  | .kconvPpg => 6
  | .kconvPps => 8
  | .kconvPpm => 9
  | .kconvPph => 10
  | .kconvRps => 11
  | .kconvRpm => 12
  | .kconvRph => 13
  | .kconvM3ps => 14
  | .kconvM3pm => 15
  | .kconvM3ph => 16
  | .kconvLps => 17
  | .kconvLpm => 18
  | .kconvLph => 19
  | .kconvGps => 20
  | .kconvGpm => 21
  | .kconvGph => 22
  | .kdecMode => 32
  | .kdecSr => 33
  | .kdecDuty => 34
  | .kdecTach => 35
  | .kencSr => 36
  | .kencDuty => 37
  | .kencTach => 38
  | .ktgtEnc => 39
  | .ktgtDec => 40

/-- The channel field of a command: 0 for a kernel (R80). -/
def Instr.chField (i : Instr) : BitVec 3 := i.channel.getD 0

/-- The command word of an instruction: `cls ++ fn ++ rsv ++ ch` with `rsv = 0` (R80). -/
def encode (i : Instr) : Word16 := i.cls ++ i.fn ++ (0 : BitVec 5) ++ i.chField

/-- The first `nbits` bits of `w` as a command word; every bit above `nbits` is 0. -/
def fetchWord (nbits w : Nat) : Word16 := BitVec.ofNat 16 (w % 2 ^ nbits)

/-- The instruction the decoder reads from the command word whose bits are `w` (a command is one 16-bit word on a port: no byte order is involved). -/
def decodeTableWord (nbits w : Nat) : Option Instr :=
  match decode (fetchWord nbits w) with
  | .ok i => some i
  | .error _ => none

end Sys2Proof
end

