-- ==== Sys2Proof/Machine/HostAgent.lean ====
section
/-! DEFINITION. The host agent (00_scope.md R17): it presents one action at a time, commands, resets and auto-tune invocations, and runs the speed-range
auto-tuner of 44_autotuner_host.md R220 to R228, which is outside the block (R5) and uses only `GET.SR`, `GET.TAC` and `SET.SR` (R221; log 17). -/

namespace Sys2Proof.Machine

/-! The auto-tuner's decision table (R224). -/

/-- What a row of the table does. -/
inductive TuneAction where
  /-- Rows 1 and 2: converged, or in band. -/
  | stop
  /-- Row 4: TuningUnreachable. -/
  | unreachable
  /-- Rows 3 and 5 to 9: change the speed range and re-sample. -/
  | setSr (sr : Nat)
  deriving DecidableEq, Repr

/-- The nine rows in their priority order (R224). -/
def tuneRow (avg : Rat) (sr : Nat) : TuneAction :=
  if avg ≤ 2040 ∧ sr = 32 then .stop
  else if avg ≤ 2040 ∧ avg > 1000 then .stop
  else if avg > 2040 ∧ sr > 1 then .setSr (sr / 2)
  else if avg > 2040 ∧ sr = 1 then .unreachable
  else if avg > 500 ∧ sr < 16 then .setSr (sr * 2)
  else if avg > 250 ∧ sr < 8 then .setSr (sr * 4)
  else if avg > 125 ∧ sr < 4 then .setSr (sr * 8)
  else if avg > 62 ∧ sr < 2 then .setSr 16
  else .setSr 32

/-! One invocation (R222 to R228). -/

/-- The start: read the current speed range (R222). -/
def Tuner.start (ch : BitVec 3) : Tuner := ⟨ch, 0, 0, 0, 0, .readSr⟩

/-- The value of a response as a number: `GET.SR` and `GET.TAC` answer integers (42_get_commands.md R167, R172). -/
def natOf (v : Rat) : Nat := v.floor.toNat

/-- A fresh batch at speed range `sr` (R226: stale samples are not reused). -/
def Tuner.batch (t : Tuner) (sr : Nat) : Tuner := { t with sr := sr, taken := 0, sum := 0, stage := .sample }

/-- What the table does with a full batch (R224, R226). -/
def Tuner.decide (t : Tuner) : Tuner ⊕ TuneOutcome :=
  match tuneRow (t.sum / (t.taken : Rat)) t.sr with
  | .stop => .inr .success
  | .unreachable => .inr (.failed .tuningUnreachable)
  | .setSr n => .inl { t with stage := .adjust n }

/-- One more sample; a batch of AT_SAMPLES is judged (R223). -/
def Tuner.sample (p : Params) (t : Tuner) (v : Rat) : Tuner ⊕ TuneOutcome :=
  let t' := { t with taken := t.taken + 1, sum := t.sum + v }
  if t'.taken < p.atSamples then .inl t' else t'.decide

/-- The speed range was written: a fresh batch, unless AT_MAX_STEPS is reached, which ends with DidNotConverge (R226, R228). -/
def Tuner.adjusted (p : Params) (t : Tuner) (n : Nat) : Tuner ⊕ TuneOutcome :=
  let t' := { t with adjusts := t.adjusts + 1 }
  match p.atMaxSteps with
  | none => .inl (t'.batch n)
  | some cap => if t'.adjusts < cap then .inl (t'.batch n) else .inr (.failed .didNotConverge)

/-- The tuner takes a response; a status other than OK ends the invocation with it (R222, R227). -/
def Tuner.receive (p : Params) (t : Tuner) : Result → Tuner ⊕ TuneOutcome
  | .error st => .inr (.failed st)
  | .ok v =>
    match t.stage with
    | .readSr => .inl (t.batch (natOf v))
    | .sample => t.sample p v
    | .adjust n => t.adjusted p n

/-- A request without operands beside WDATA. -/
def commandRequest (i : Instr) (wdata : Word32) : Request := { Request.zero with cw := encode i, wdata := wdata }

/-- The command the tuner issues next (R221). -/
def Tuner.request (t : Tuner) : Request :=
  match t.stage with
  | .readSr => commandRequest (.getSr t.ch) 0
  | .sample => commandRequest (.getTac t.ch) 0
  | .adjust n => commandRequest (.setSr t.ch) (BitVec.ofNat 32 n)

/-! The host between commands (10_state.md R27: it presents a command only after the response to the one before). -/

/-- The host takes a response. -/
def HostAgent.receive (p : Params) (h : HostAgent) (r : Result) : HostAgent :=
  match h.tuner with
  | none => h
  | some t =>
    match t.receive p r with
    | .inl t' => { h with tuner := some t' }
    | .inr o => { h with tuner := none, outcome := some o }

/-- A request put on the command port. -/
def State.offer (s : State) (r : Request) : State := { s with reqValid := true, req := r }

/-- The next action of the host's program. -/
def presentNext (s : State) : State :=
  match s.host.program with
  | [] => s
  | .command r :: rest => ({ s with host := { s.host with program := rest } } : State).offer r
  | .reset :: rest => { s with host := { s.host with program := rest }, rst := true }
  | .tune ch :: rest =>
    ({ s with host := { s.host with program := rest, tuner := some (Tuner.start ch) } } : State).offer (Tuner.start ch).request

/-- The host's turn, when no request stands on the port: the auto-tuner's next command, or the next action of the program (log 19). -/
def State.present (s : State) : State :=
  match s.host.tuner with
  | some t => s.offer t.request
  | none => presentNext s

/-! The clock edges on which no command body runs. -/

/-- What the host has seen by a rising edge: in the response cycle it takes the response; a command that the reset abandons gets none, and an auto-tune
invocation that waited for it is given up (70_reset_and_hazards.md R271; log 14). -/
def hostAtReset (s : State) : HostAgent :=
  match s.phase with
  | .idle => s.host
  | .busy => { s.host with tuner := none }
  | .responding r => s.host.receive s.params r

/-- A rising edge with `rst = 1` (70_reset_and_hazards.md R270, 10_state.md R40): the block takes its reset state; parameters, chip registers, environment and a request
standing on the port are not the block's (a command in progress is abandoned, R271, log 9). The host lowers `rst` after the edge (log 14). -/
def State.resetEdge (s : State) : State :=
  { s with
    ppr := PerChannel.all pprDefault
    ppm3 := PerChannel.all ppm3Default
    atEn := PerChannel.all false
    phase := .idle
    trace := []
    rst := false
    host := hostAtReset s }

/-- The end of the response cycle (10_state.md R29): `rsp_valid` falls, `req_ready` rises, and the host, which has the response, may present its next action. -/
def State.afterResponse (s : State) (r : Result) : State :=
  ({ s with phase := .idle, host := s.host.receive s.params r } : State).present

/-- A word that names no command is answered at once, with no transaction (30_encoding.md R85). -/
def rejectStatus : Reject → Status
  | .reservedClass => .invalidArgument
  | .badChannel => .invalidChannel
  | .reservedBits => .invalidArgument
  | .kernelChannel => .invalidArgument
  | .unrecognizedFn => .invalidArgument

/-- The response to a rejected word. -/
def State.reject (s : State) (r : Reject) : State := s.accept.raise (rejectStatus r)

/-- A busy block without `rst`: only a reset of the host's can move it (20_memory.md R53, 70_reset_and_hazards.md R280; log 8). -/
def busyStep (s : State) : Host.Outcome State Fault Refusal :=
  match s.host.program with
  | .reset :: rest => .next { s with host := { s.host with program := rest }, rst := true }
  | _ => .fault .busNeverAnswers

end Sys2Proof.Machine
end

