-- ==== Sys2Proof/Machine/Step.lean ====
section
/-! DEFINITION. One step of the machine: what happens up to the next rising edge of `clk` at which something happens. An idle block with a request accepts it, runs the
whole command and delivers the response; the response cycle ends; a reset edge resets (10_state.md R29, 70_reset_and_hazards.md R270; log 2). -/

namespace Sys2Proof.Machine

def step (s : State) : Host.Outcome State Fault Refusal :=
  if s.rst then .next s.resetEdge
  else match s.phase with
    | .busy => busyStep s
    | .responding r => .next (s.afterResponse r)
    | .idle =>
      if s.reqValid then
        match decode s.req.cw with
        | .ok i => exec i s
        | .error r => .next (s.reject r)
      else .next s.present

/-- `s` with the command word `w` on the command port of an idle block, so that the next step accepts and runs it. The operands beside the word
stay as the state has them (log 13). -/
def State.withFetchWord (s : State) (nbits w : Nat) : State :=
  { s with
    rst := false
    phase := .idle
    reqValid := true
    req := { s.req with cw := fetchWord nbits w } }

end Sys2Proof.Machine
end

