-- ==== Sys2Proof/Safety.lean ====
section
/-! DEFINITION. The terms in which claims are made: a run of transactions that all complete, what a primitive may write, the invariant of the block, and the classes of
commands. -/

namespace Sys2Proof.Machine

/-- Issue transactions one after another: their data and the state after them, if every one completes with success; `none` as soon as one fails or never completes. -/
def issueAll : State → List BusOp → Option (List Word16 × State)
  | s, [] => some ([], s)
  | s, op :: ops =>
    match issue s op with
    | (.done w, s') =>
      match issueAll s' ops with
      | some (ws, s'') => some (w :: ws, s'')
      | none => none
    | (.failed, _) => none
    | (.pending, _) => none

/-- The three bit reads of ReadSR (42_get_commands.md R161). -/
def srReads (c : Channel) : List BusOp := [.bitRead (offDyn c) 7, .bitRead (offDyn c) 6, .bitRead (offDyn c) 5]

/-- The four transactions of a rate get on a channel with a signal (42_get_commands.md R164). -/
def rateReads (c : Channel) : List BusOp := .memRead (offTach c) :: srReads c

/-- The three bit writes of `SET.SR` with code `code` (43_set_commands.md R202). -/
def srWrites (c : Channel) (code : Nat) : List BusOp :=
  [.bitWrite (offDyn c) 7 (code.testBit 2), .bitWrite (offDyn c) 6 (code.testBit 1), .bitWrite (offDyn c) 5 (code.testBit 0)]

/-- The speed-range code three answered bits spell, bit 7 first (30_encoding.md R91). -/
def codeOf (b7 b6 b5 : Word16) : Nat := 4 * (b7.getLsbD 0).toNat + 2 * (b6.getLsbD 0).toNat + (b5.getLsbD 0).toNat

/-- The function codes each class accepts (30_encoding.md R82, R83): 26 for GET, 7 for SET, 27 for KRN. -/
def acceptedFns : Nat → List Nat
  | 0 => [0, 1, 2, 3, 4, 5, 6, 7, 8, 9, 10, 11, 12, 13, 14, 15, 16, 17, 18, 19, 20, 21, 22, 32, 33, 34]
  | 1 => [0, 2, 3, 4, 32, 33, 34]
  | 2 => [1, 5, 6, 8, 9, 10, 11, 12, 13, 14, 15, 16, 17, 18, 19, 20, 21, 22, 32, 33, 34, 35, 36, 37, 38, 39, 40]
  | _ => []

/-- A request stands on the port of an idle block and no reset is asserted: the next step accepts it (10_state.md R29). -/
structure Accepts (s : State) : Prop where
  noReset : s.rst = false
  idle : s.phase = .idle
  valid : s.reqValid = true

/-- The environment is MEMBUS from here on (20_memory.md R72): every transaction succeeds on the register image. -/
def OnMembus (s : State) : Prop := s.env.script = [] ∧ s.env.otherwise = .membus

/-- The offsets a primitive may write: one byte for a bit write, two for a two-byte write, none for a read. -/
def BusOp.mayWrite : BusOp → List Nat
  | .bitRead _ _ => []
  | .bitWrite off _ _ => [off.toNat]
  | .memRead _ => []
  | .memWrite off _ => [off.toNat, (off + 1).toNat]

/-- A transaction on a register of the map, with the primitive the block may use on it (20_memory.md R59, R60): one bit of Fan config (bit 7) or Fan dynamics
(bits 7, 6, 5), two bytes of the four two-byte register classes, writes only where the map says so. -/
def BusOp.onMap : BusOp → Prop
  | .bitRead off i => ∃ c, (off = offCfg c ∧ i = 7) ∨ (off = offDyn c ∧ (i = 7 ∨ i = 6 ∨ i = 5))
  | .bitWrite off i _ => ∃ c, (off = offCfg c ∧ i = 7) ∨ (off = offDyn c ∧ (i = 7 ∨ i = 6 ∨ i = 5))
  | .memRead off => ∃ c, off = offTach c ∨ off = offDutyRd .readback c ∨ off = offDutySet c ∨ off = offTgt c
  | .memWrite off _ => ∃ c, off = offDutySet c ∨ off = offTgt c

/-- Every calibration value is legal (10_state.md R21, R22): 1 to 2^31 - 1. -/
def CalLegal (s : State) : Prop :=
  ∀ c, 1 ≤ (s.ppr.get c).toInt ∧ 1 ≤ (s.ppm3.get c).toInt

/-- A status a failing command of the block may answer (60_exceptions.md R240, U18): neither OK nor one of the two that are the host's. -/
def Status.isError : Status → Bool
  | .invalidChannel => true
  | .invalidArgument => true
  | .noSignal => true
  | .transportError => true
  | .unrecognizedEncoding => true
  | .ok => false
  | .tuningUnreachable => false
  | .didNotConverge => false

/-- A response the block may give: OK, or one of the five error statuses. -/
def legalResult : Result → Bool
  | .ok _ => true
  | .error st => st.isError

/-- A phase the block may be in. -/
def legalPhase : Phase → Bool
  | .idle => true
  | .busy => true
  | .responding r => legalResult r

/-- The invariant of the machine: legal calibration, a register image in canonical form, at most four transactions recorded, and no response outside the block's six
statuses. -/
structure Inv (s : State) : Prop where
  calibration : CalLegal s
  image : Memory.wf s.chip = true
  history : s.trace.length ≤ 4
  response : legalPhase s.phase = true

/-- What a speed-range code means as a speed range (40_field_codec.md R111): `2^code` up to 5, and 32 for 6 and 7 when SR_UNMATCHED is `alias32`. -/
def SrIs (u : SrUnmatched) (code sr : Nat) : Prop :=
  (code ≤ 5 ∧ sr = 2 ^ code) ∨ (6 ≤ code ∧ u = .alias32 ∧ sr = 32)

/-- A write that succeeded. -/
def Transaction.wrote (x : Transaction) : Bool :=
  match x.op, x.outcome with
  | .bitWrite _ _ _, .done _ => true
  | .memWrite _ _, .done _ => true
  | _, _ => false

/-- Every transaction recorded in a state succeeded. -/
def noneFailed (s : State) : Prop := ∀ x ∈ s.trace, ∃ w, x.outcome = .done w

end Sys2Proof.Machine

namespace Sys2Proof

/-- A command of class GET (30_encoding.md R80). -/
def Instr.isGet (i : Instr) : Bool := i.cls == 0

/-- A command of class SET (30_encoding.md R80). -/
def Instr.isSet (i : Instr) : Bool := i.cls == 1

/-- A command of class KRN (30_encoding.md R80). -/
def Instr.isKernel (i : Instr) : Bool := i.cls == 2

/-- The rate get of a tag (42_get_commands.md R173 to R187). -/
def RateTag.getInstr : RateTag → BitVec 3 → Instr
  | .pps => .getPps
  | .ppm => .getPpm
  | .pph => .getPph
  | .rps => .getRps
  | .rpm => .getRpm
  | .rph => .getRph
  | .m3ps => .getM3ps
  | .m3pm => .getM3pm
  | .m3ph => .getM3ph
  | .lps => .getLps
  | .lpm => .getLpm
  | .lph => .getLph
  | .gps => .getGps
  | .gpm => .getGpm
  | .gph => .getGph

/-- The rate kernel of a tag (41_unit_conversion.md R138 to R152). -/
def RateTag.kernelInstr : RateTag → Instr
  | .pps => .kconvPps
  | .ppm => .kconvPpm
  | .pph => .kconvPph
  | .rps => .kconvRps
  | .rpm => .kconvRpm
  | .rph => .kconvRph
  | .m3ps => .kconvM3ps
  | .m3pm => .kconvM3pm
  | .m3ph => .kconvM3ph
  | .lps => .kconvLps
  | .lpm => .kconvLpm
  | .lph => .kconvLph
  | .gps => .kconvGps
  | .gpm => .kconvGpm
  | .gph => .kconvGph

end Sys2Proof
end

