-- ==== Sys2Proof/Certificates/Slice0/Obligations.lean ====
section
/-! DEFINITION. The statements for the provers. They are about the commands, the step and the pure functions of the spec, in the terms of Sys2Proof/Safety.lean. Where a
statement speaks of transactions that complete, `issueAll s ops = some (ws, s1)` says that the transactions `ops`, issued one after another from `s`, all succeed with data
`ws` and leave `s1`; it holds for every environment that answers them so (the script, MEMBUS or free draws). -/

open Sys2Proof Sys2Proof.Machine

/-- For every command with every value of its channel field, the word the encoder writes has the class, function code, zero reserved bits and channel of the command, and the decoder reads the same command from it. (The channel is a free field of the table, R84. That a GET or SET word with channel field 0 or 7 decodes to its instruction, which then answers InvalidChannel, and is not rejected by the decoder, is the model's choice, log 1, DEDUCED: the response is that of R85 test 2 either way.) -/
def Obligations.DecodeEncodeRoundTrip : Prop :=
  ∀ i : Instr,
    decode (encode i) = .ok i ∧
    (encode i).toNat = i.cls.toNat * 16384 + i.fn.toNat * 256 + i.chField.toNat

/-- For every one of the 65536 words, if the decoder reads a command from it then the encoder writes that same word for the command: no bit of an accepted word is ignored, and no two words are one command. -/
def Obligations.EncodeDecodeRoundTrip : Prop :=
  ∀ (cw : Word16) (i : Instr), decode cw = .ok i → encode i = cw

/-- The worked encodings of the opcode map (GET.RPM 3, SET.SR 1, KCONV.GPH) and one more word of each class and family decode to their commands. -/
def Obligations.WorkedWordsDecode : Prop :=
  decode 0b0000110000000011 = .ok (.getRpm 3) ∧ decode 0b0100001000000001 = .ok (.setSr 1) ∧
  decode 0b1001011000000000 = .ok .kconvGph ∧ decode 0b0010000100000110 = .ok (.getTgt 6) ∧
  decode 0b0110001000000011 = .ok (.setAt 3) ∧ decode 0b1010010100000000 = .ok .kencDuty ∧
  decode 0b1010100000000000 = .ok .ktgtDec

/-- In a state that accepts a request, the five tests of the rule, in their order on cls, ch, rsv and fn of the command word, decide the status; the response is given with no transaction recorded and nothing else changed. A word that passes them all decodes, and the step runs its command. -/
def Obligations.RejectedWordsAnswerByPriority : Prop :=
  ∀ (s : State) (cls fn rsv ch : Nat), Accepts s →
    s.req.cw.toNat = cls * 16384 + fn * 256 + rsv * 8 + ch → cls < 4 → fn < 64 → rsv < 32 → ch < 8 →
    if cls = 3 then step s = .next (s.accept.raise .invalidArgument)
    else if cls ≠ 2 ∧ (ch = 0 ∨ ch = 7) then step s = .next (s.accept.raise .invalidChannel)
    else if rsv ≠ 0 then step s = .next (s.accept.raise .invalidArgument)
    else if cls = 2 ∧ ch ≠ 0 then step s = .next (s.accept.raise .invalidArgument)
    else if fn ∉ acceptedFns cls then step s = .next (s.accept.raise .invalidArgument)
    else ∃ i, decode s.req.cw = .ok i ∧ step s = exec i s

/-- Whatever the 16 bits of the command word, a step that accepts the request ends with a response on the port, or with the block busy behind a transaction that is recorded as pending; it never faults and never refuses. -/
def Obligations.EveryWordIsAnswered : Prop :=
  ∀ s : State, Accepts s → ∃ t, step s = .next t ∧ t.reqValid = false ∧
    ((∃ r, t.phase = .responding r) ∨ (t.phase = .busy ∧ ∃ x ∈ t.trace, x.outcome = .pending))

/-- When a request stands on the port of an idle block without reset and its word decodes to i, the step is exec of i at that state and nothing more; and withFetchWord puts a word where exactly that happens. (One command is one step by log 2; withFetchWord stands for the host by log 13.) -/
def Obligations.StepRunsTheDecodedCommand : Prop :=
  (∀ (s : State) (i : Instr), Accepts s → decode s.req.cw = .ok i → step s = exec i s) ∧
  (∀ (s : State) (w : Word16), Accepts (s.withFetchWord 16 w.toNat) ∧ (s.withFetchWord 16 w.toNat).req.cw = w)

/-- Every GET or SET word with ch 0 or 7, whatever its other fields, answers InvalidChannel with nothing issued and nothing changed, and so does the meaning of every GET and SET; a kernel word is never answered with InvalidChannel. -/
def Obligations.BadChannelAnswersInvalidChannel : Prop :=
  (∀ s : State, Accepts s → s.req.cw.toNat / 16384 ≤ 1 → (s.req.cw.toNat % 8 = 0 ∨ s.req.cw.toNat % 8 = 7) →
    step s = .next (s.accept.raise .invalidChannel)) ∧
  (∀ (s : State) (i : Instr) (ch : BitVec 3), i.channel = some ch → (ch = 0 ∨ ch = 7) →
    exec i s = .next (s.accept.raise .invalidChannel)) ∧
  (∀ s t : State, Accepts s → s.req.cw.toNat / 16384 = 2 → step s = .next t → t.response ≠ some (.error .invalidChannel))

/-- The five GET commands that issue no transaction have the encodings of their rules and, on a legal channel, answer PPR[ch], PPM3[ch], PPM3[ch]/1000, PPM3[ch]*473176473/125000000000 and AT_EN[ch]; on channel 0 or 7 they answer InvalidChannel; the values at reset are those of the rules. -/
def Obligations.CalibrationGetsAnswer : Prop :=
  (∀ ch : BitVec 3, (encode (.getPpr ch)).toNat = 0x0300 + ch.toNat ∧ (encode (.getPpm3 ch)).toNat = 0x0400 + ch.toNat ∧
    (encode (.getPpl ch)).toNat = 0x0500 + ch.toNat ∧ (encode (.getPpg ch)).toNat = 0x0600 + ch.toNat ∧
    (encode (.getAt ch)).toNat = 0x2200 + ch.toNat) ∧
  (∀ (s : State) (ch : BitVec 3) (c : Channel), ch.toNat = c.index + 1 →
    exec (.getPpr ch) s = .next (s.accept.respond (.ok ((s.ppr.get c).toNat : Rat))) ∧
    exec (.getPpm3 ch) s = .next (s.accept.respond (.ok ((s.ppm3.get c).toNat : Rat))) ∧
    exec (.getPpl ch) s = .next (s.accept.respond (.ok (((s.ppm3.get c).toNat : Rat) / 1000))) ∧
    exec (.getPpg ch) s = .next (s.accept.respond (.ok (((s.ppm3.get c).toNat * 473176473 : Nat) / (125000000000 : Nat) : Rat))) ∧
    exec (.getAt ch) s = .next (s.accept.respond (.ok (if s.atEn.get c then 1 else 0)))) ∧
  (∀ (s : State) (ch : BitVec 3), ch = 0 ∨ ch = 7 →
    ∀ i ∈ [Instr.getPpr ch, .getPpm3 ch, .getPpl ch, .getPpg ch, .getAt ch], exec i s = .next (s.accept.raise .invalidChannel)) ∧
  (∀ c : Channel, (State.reset.ppr.get c).toNat = 2 ∧ (State.reset.ppm3.get c).toNat = 1000000 ∧ State.reset.atEn.get c = false)

/-- On a legal channel, when the one transaction of the command succeeds with data w, GET.PWM answers the 9-bit duty w >> 7, GET.SPD that duty times 100/511, GET.TAC the 11-bit count w >> 5 (0 and 2047 as plain numbers) and GET.MODE the bit read; the state is otherwise that after the transaction. -/
def Obligations.OneTransactionGetsAnswer : Prop :=
  ∀ (s s1 : State) (ch : BitVec 3) (c : Channel) (w : Word16), ch.toNat = c.index + 1 →
    (issueAll s.accept [.memRead (offDutyRd s.params.dutyRdBase c)] = some ([w], s1) →
      exec (.getPwm ch) s = .next (s1.respond (.ok ((w.toNat / 128 : Nat) : Rat))) ∧
      exec (.getSpd ch) s = .next (s1.respond (.ok ((w.toNat / 128 * 100 : Nat) / (511 : Nat) : Rat)))) ∧
    (issueAll s.accept [.memRead (offTach c)] = some ([w], s1) →
      exec (.getTac ch) s = .next (s1.respond (.ok ((w.toNat / 32 : Nat) : Rat)))) ∧
    (issueAll s.accept [.bitRead (offCfg c) 7] = some ([w], s1) →
      exec (.getMode ch) s = .next (s1.respond (.ok (if w.getLsbD 0 then 1 else 0))))

/-- On a legal channel, when the reads of bits 7, 6 and 5 of Fan dynamics succeed, GET.SR answers 2^code for a code up to 5; for code 6 or 7 it answers UnrecognizedEncoding, or 32 under SR_UNMATCHED = alias32; all three bits are read first. -/
def Obligations.SpeedRangeGetAnswers : Prop :=
  ∀ (s s1 : State) (ch : BitVec 3) (c : Channel) (b7 b6 b5 : Word16), ch.toNat = c.index + 1 →
    issueAll s.accept (srReads c) = some ([b7, b6, b5], s1) →
    (codeOf b7 b6 b5 ≤ 5 → exec (.getSr ch) s = .next (s1.respond (.ok ((2 ^ codeOf b7 b6 b5 : Nat) : Rat)))) ∧
    (6 ≤ codeOf b7 b6 b5 → s.params.srUnmatched = .alias32 → exec (.getSr ch) s = .next (s1.respond (.ok 32))) ∧
    (6 ≤ codeOf b7 b6 b5 → s.params.srUnmatched = .error → exec (.getSr ch) s = .next (s1.raise .unrecognizedEncoding))

/-- On a legal channel, when the count read gives t, neither 0 nor 2047, and the three bit reads after it spell a code that decodes to the speed range sr, each of these rate gets answers the exact rational of its rule, from t, sr and the calibration of the channel (n = PPR[ch], m = PPM3[ch]), after exactly those four transactions. -/
def Obligations.PulseAndRevolutionGetsAnswer : Prop :=
  ∀ (s s1 : State) (ch : BitVec 3) (c : Channel) (wt b7 b6 b5 : Word16) (t sr n m : Nat), ch.toNat = c.index + 1 →
    issueAll s.accept (rateReads c) = some ([wt, b7, b6, b5], s1) →
    t = wt.toNat / 32 → t ≠ 0 → t ≠ 2047 → SrIs s.params.srUnmatched (codeOf b7 b6 b5) sr →
    n = (s.ppr.get c).toNat → m = (s.ppm3.get c).toNat →
    exec (.getPps ch) s = .next (s1.respond (.ok (((sr * 8192 : Nat) : Rat) / ((t : Nat) : Rat)))) ∧
    exec (.getPpm ch) s = .next (s1.respond (.ok (((60 * sr * 8192 : Nat) : Rat) / ((t : Nat) : Rat)))) ∧
    exec (.getPph ch) s = .next (s1.respond (.ok (((3600 * sr * 8192 : Nat) : Rat) / ((t : Nat) : Rat)))) ∧
    exec (.getRps ch) s = .next (s1.respond (.ok (((sr * 8192 : Nat) : Rat) / ((t * n : Nat) : Rat)))) ∧
    exec (.getRpm ch) s = .next (s1.respond (.ok (((60 * sr * 8192 : Nat) : Rat) / ((t * n : Nat) : Rat)))) ∧
    exec (.getRph ch) s = .next (s1.respond (.ok (((3600 * sr * 8192 : Nat) : Rat) / ((t * n : Nat) : Rat))))

/-- On a legal channel, when the count read gives t, neither 0 nor 2047, and the three bit reads after it spell a code that decodes to the speed range sr, each of these rate gets answers the exact rational of its rule, from t, sr and the calibration of the channel (n = PPR[ch], m = PPM3[ch]), after exactly those four transactions. -/
def Obligations.FlowGetsAnswer : Prop :=
  ∀ (s s1 : State) (ch : BitVec 3) (c : Channel) (wt b7 b6 b5 : Word16) (t sr n m : Nat), ch.toNat = c.index + 1 →
    issueAll s.accept (rateReads c) = some ([wt, b7, b6, b5], s1) →
    t = wt.toNat / 32 → t ≠ 0 → t ≠ 2047 → SrIs s.params.srUnmatched (codeOf b7 b6 b5) sr →
    n = (s.ppr.get c).toNat → m = (s.ppm3.get c).toNat →
    exec (.getM3ps ch) s = .next (s1.respond (.ok (((sr * 8192 : Nat) : Rat) / ((t * m : Nat) : Rat)))) ∧
    exec (.getM3pm ch) s = .next (s1.respond (.ok (((60 * sr * 8192 : Nat) : Rat) / ((t * m : Nat) : Rat)))) ∧
    exec (.getM3ph ch) s = .next (s1.respond (.ok (((3600 * sr * 8192 : Nat) : Rat) / ((t * m : Nat) : Rat)))) ∧
    exec (.getLps ch) s = .next (s1.respond (.ok (((1000 * sr * 8192 : Nat) : Rat) / ((t * m : Nat) : Rat)))) ∧
    exec (.getLpm ch) s = .next (s1.respond (.ok (((60000 * sr * 8192 : Nat) : Rat) / ((t * m : Nat) : Rat)))) ∧
    exec (.getLph ch) s = .next (s1.respond (.ok (((3600000 * sr * 8192 : Nat) : Rat) / ((t * m : Nat) : Rat)))) ∧
    exec (.getGps ch) s = .next (s1.respond (.ok (((sr * 8192 * 125000000000 : Nat) : Rat) / ((t * m * 473176473 : Nat) : Rat)))) ∧
    exec (.getGpm ch) s = .next (s1.respond (.ok (((60 * sr * 8192 * 125000000000 : Nat) : Rat) / ((t * m * 473176473 : Nat) : Rat)))) ∧
    exec (.getGph ch) s = .next (s1.respond (.ok (((3600 * sr * 8192 * 125000000000 : Nat) : Rat) / ((t * m * 473176473 : Nat) : Rat))))

/-- For each of the 15 rate tags: a count of 0 or 2047 ends the command with NoSignal after the one transaction that read it, whatever the speed range holds and whatever AT_EN holds; otherwise, after all three bit reads, a code of 6 or 7 under SR_UNMATCHED = error ends it with UnrecognizedEncoding, and a code that decodes to sr answers Conv of the count, sr, PPR[ch] and PPM3[ch]. -/
def Obligations.RateGetBody : Prop :=
  ∀ (s s1 : State) (tag : RateTag) (ch : BitVec 3) (c : Channel) (wt : Word16), ch.toNat = c.index + 1 →
    (issueAll s.accept [.memRead (offTach c)] = some ([wt], s1) → (wt.toNat / 32 = 0 ∨ wt.toNat / 32 = 2047) →
      exec (tag.getInstr ch) s = .next (s1.raise .noSignal)) ∧
    (∀ b7 b6 b5 : Word16, issueAll s.accept (rateReads c) = some ([wt, b7, b6, b5], s1) →
      wt.toNat / 32 ≠ 0 → wt.toNat / 32 ≠ 2047 →
      (6 ≤ codeOf b7 b6 b5 → s.params.srUnmatched = .error →
        exec (tag.getInstr ch) s = .next (s1.raise .unrecognizedEncoding)) ∧
      (∀ sr : Nat, SrIs s.params.srUnmatched (codeOf b7 b6 b5) sr →
        exec (tag.getInstr ch) s =
          .next (s1.respond (conv tag (decTach wt) sr (s.ppr.get c).toNat (s.ppm3.get c).toNat))))

/-- On a legal channel, after the target read succeeds with raw target t: t = 0 answers NoSignal; t = 2047 answers 0 under TGT_SENTINEL_DECODE = zero, both after that one transaction; every other case reads the speed range and answers 491520*sr/(PPR[ch]*t), or UnrecognizedEncoding for an unmatched code. -/
def Obligations.TargetGetAnswers : Prop :=
  ∀ (s s1 : State) (ch : BitVec 3) (c : Channel) (wt : Word16), ch.toNat = c.index + 1 →
    (issueAll s.accept [.memRead (offTgt c)] = some ([wt], s1) →
      (wt.toNat / 32 = 0 → exec (.getTgt ch) s = .next (s1.raise .noSignal)) ∧
      (wt.toNat / 32 = 2047 → s.params.tgtSentinelDecode = .zero → exec (.getTgt ch) s = .next (s1.respond (.ok 0)))) ∧
    (∀ (b7 b6 b5 : Word16) (sr : Nat), issueAll s.accept (.memRead (offTgt c) :: srReads c) = some ([wt, b7, b6, b5], s1) →
      wt.toNat / 32 ≠ 0 → (wt.toNat / 32 = 2047 → s.params.tgtSentinelDecode = .identity) →
      (SrIs s.params.srUnmatched (codeOf b7 b6 b5) sr →
        exec (.getTgt ch) s =
          .next (s1.respond (.ok (((491520 * sr : Nat) : Rat) / (((s.ppr.get c).toNat * (wt.toNat / 32) : Nat) : Rat))))) ∧
      (6 ≤ codeOf b7 b6 b5 → s.params.srUnmatched = .error →
        exec (.getTgt ch) s = .next (s1.raise .unrecognizedEncoding)))

/-- On a legal channel, WDATA from 0 to 511 is written as the register word WDATA*128 to OffDutySet(ch), whatever DUTY_RD_BASE is, and when that transaction succeeds the command answers OK 0; WDATA above 511 answers InvalidArgument with no transaction and no state change. -/
def Obligations.DutySetWrites : Prop :=
  ∀ (s s1 : State) (ch : BitVec 3) (c : Channel) (w0 : Word16), ch.toNat = c.index + 1 →
    (s.req.wdata.toNat ≤ 511 →
      issueAll s.accept [.memWrite (offDutySet c) (BitVec.ofNat 16 (s.req.wdata.toNat * 128))] = some ([w0], s1) →
      exec (.setPwm ch) s = .next (s1.respond (.ok 0))) ∧
    (511 < s.req.wdata.toNat → exec (.setPwm ch) s = .next (s.accept.raise .invalidArgument))

/-- On a legal channel, for WDATA = 2^k with k up to 5 the bits 2, 1, 0 of k are written to bits 7, 6, 5 of Fan dynamics in that order, and when all three transactions succeed the command answers OK 0; any other WDATA answers InvalidArgument with no transaction and no state change. -/
def Obligations.SpeedRangeSetWrites : Prop :=
  ∀ (s s1 : State) (ch : BitVec 3) (c : Channel) (k : Nat) (w2 w1 w0 : Word16), ch.toNat = c.index + 1 →
    (k ≤ 5 → s.req.wdata.toNat = 2 ^ k → issueAll s.accept (srWrites c k) = some ([w2, w1, w0], s1) →
      exec (.setSr ch) s = .next (s1.respond (.ok 0))) ∧
    (s.req.wdata.toNat ∉ [1, 2, 4, 8, 16, 32] → exec (.setSr ch) s = .next (s.accept.raise .invalidArgument))

/-- On a legal channel, WDATA[0] is written to bit 7 of Fan config and when that transaction succeeds the command answers OK 0; the other bits of WDATA do not matter. -/
def Obligations.ModeSetWrites : Prop :=
  ∀ (s s1 : State) (ch : BitVec 3) (c : Channel) (w0 : Word16), ch.toNat = c.index + 1 →
    issueAll s.accept [.bitWrite (offCfg c) 7 (s.req.wdata.getLsbD 0)] = some ([w0], s1) →
    exec (.setMode ch) s = .next (s1.respond (.ok 0))

/-- On a legal channel: WDATA = 0 writes the word 0xFFE0 and nothing else; otherwise the speed range is read first and T = 60*sr*8192 div (PPR[ch]*WDATA) is written as T*32 when it is 1 to 2046, and when the transactions succeed the command answers OK 0; a T outside that range answers InvalidArgument, and an unmatched code UnrecognizedEncoding, after the three reads and with no write. -/
def Obligations.TargetSetWrites : Prop :=
  ∀ (s s1 : State) (ch : BitVec 3) (c : Channel) (b7 b6 b5 w0 : Word16) (sr tg : Nat), ch.toNat = c.index + 1 →
    (s.req.wdata = 0 → issueAll s.accept [.memWrite (offTgt c) 0xFFE0] = some ([w0], s1) →
      exec (.setTgt ch) s = .next (s1.respond (.ok 0))) ∧
    (s.req.wdata ≠ 0 → SrIs s.params.srUnmatched (codeOf b7 b6 b5) sr →
      tg = (60 * sr * 8192) / ((s.ppr.get c).toNat * s.req.wdata.toNat) →
      (1 ≤ tg → tg ≤ 2046 →
        issueAll s.accept (srReads c ++ [.memWrite (offTgt c) (BitVec.ofNat 16 (tg * 32))]) = some ([b7, b6, b5, w0], s1) →
        exec (.setTgt ch) s = .next (s1.respond (.ok 0))) ∧
      ((tg = 0 ∨ 2046 < tg) → issueAll s.accept (srReads c) = some ([b7, b6, b5], s1) →
        exec (.setTgt ch) s = .next (s1.raise .invalidArgument))) ∧
    (s.req.wdata ≠ 0 → 6 ≤ codeOf b7 b6 b5 → s.params.srUnmatched = .error →
      issueAll s.accept (srReads c) = some ([b7, b6, b5], s1) →
      exec (.setTgt ch) s = .next (s1.raise .unrecognizedEncoding))

/-- The three setters of calibration state have the encodings of their rules, issue no transaction, and on a legal channel write exactly their own array at that channel (SET.PPR and SET.PPM3 when WDATA read as signed is at least 1, SET.AT always, from bit 0) and answer OK 0; a non-positive PPR or PPM3 answers InvalidArgument and the prior value is retained; channel 0 or 7 answers InvalidChannel. -/
def Obligations.CalibrationSetsWrite : Prop :=
  (∀ ch : BitVec 3, (encode (.setPpr ch)).toNat = 0x4300 + ch.toNat ∧ (encode (.setPpm3 ch)).toNat = 0x4400 + ch.toNat ∧
    (encode (.setAt ch)).toNat = 0x6200 + ch.toNat) ∧
  (∀ (s : State) (ch : BitVec 3) (c : Channel), ch.toNat = c.index + 1 →
    (1 ≤ s.req.wdata.toInt →
      exec (.setPpr ch) s = .next (({ s.accept with ppr := s.ppr.set c s.req.wdata } : State).respond (.ok 0)) ∧
      exec (.setPpm3 ch) s = .next (({ s.accept with ppm3 := s.ppm3.set c s.req.wdata } : State).respond (.ok 0))) ∧
    (s.req.wdata.toInt < 1 →
      exec (.setPpr ch) s = .next (s.accept.raise .invalidArgument) ∧
      exec (.setPpm3 ch) s = .next (s.accept.raise .invalidArgument)) ∧
    exec (.setAt ch) s = .next (({ s.accept with atEn := s.atEn.set c (s.req.wdata.getLsbD 0) } : State).respond (.ok 0))) ∧
  (∀ (s : State) (ch : BitVec 3), ch = 0 ∨ ch = 7 →
    ∀ i ∈ [Instr.setPpr ch, .setPpm3 ch, .setAt ch], exec i s = .next (s.accept.raise .invalidChannel)) ∧
  (∀ (s : State) (c d : Channel) (v : Word32) (b : Bool),
    (s.ppr.set c v).get d = (if d = c then v else s.ppr.get d) ∧
    (s.ppm3.set c v).get d = (if d = c then v else s.ppm3.get d) ∧
    (s.atEn.set c b).get d = (if d = c then b else s.atEn.get d))

/-- KDEC.MODE answers bit 7 of the byte, KDEC.SR 2^code for the three top bits of the byte (UnrecognizedEncoding, or 32 under alias32, for codes 6 and 7), KDEC.DUTY the top nine and KDEC.TACH the top eleven bits of the 16-bit word; every other bit of WDATA is ignored, and the encodings are those of the rules. -/
def Obligations.FieldDecodeKernels : Prop :=
  (encode .kdecMode = 0xA000 ∧ encode .kdecSr = 0xA100 ∧ encode .kdecDuty = 0xA200 ∧ encode .kdecTach = 0xA300) ∧
  (∀ s : State,
    exec .kdecMode s = .next (s.accept.respond (.ok ((s.req.wdata.toNat / 128 % 2 : Nat) : Rat))) ∧
    exec .kdecSr s = .next (s.accept.respond (if s.req.wdata.toNat / 32 % 8 ≤ 5 then .ok ((2 ^ (s.req.wdata.toNat / 32 % 8) : Nat) : Rat) else if s.params.srUnmatched = .alias32 then .ok 32 else .error .unrecognizedEncoding)) ∧
    exec .kdecDuty s = .next (s.accept.respond (.ok ((s.req.wdata.toNat % 65536 / 128 : Nat) : Rat))) ∧
    exec .kdecTach s = .next (s.accept.respond (.ok ((s.req.wdata.toNat % 65536 / 32 : Nat) : Rat))))

/-- KENC.SR answers log2 of WDATA for 1, 2, 4, 8, 16, 32, KENC.DUTY WDATA*128 up to 511 and KENC.TACH WDATA*32 up to 2047; every other WDATA, all 32 bits read, answers InvalidArgument; the encodings are those of the rules, and the three bits of the speed-range code are the register bits. -/
def Obligations.FieldEncodeKernels : Prop :=
  (encode .kencSr = 0xA400 ∧ encode .kencDuty = 0xA500 ∧ encode .kencTach = 0xA600) ∧
  (∀ s : State,
    exec .kencSr s = .next (s.accept.respond (if s.req.wdata.toNat ∈ [1, 2, 4, 8, 16, 32] then .ok ((Nat.log2 s.req.wdata.toNat : Nat) : Rat) else .error .invalidArgument)) ∧
    exec .kencDuty s = .next (s.accept.respond (if s.req.wdata.toNat ≤ 511 then .ok ((s.req.wdata.toNat * 128 : Nat) : Rat) else .error .invalidArgument)) ∧
    exec .kencTach s = .next (s.accept.respond (if s.req.wdata.toNat ≤ 2047 then .ok ((s.req.wdata.toNat * 32 : Nat) : Rat) else .error .invalidArgument))) ∧
  (∀ (s : State) (c : Channel) (k : Nat) (b7 b6 b5 : Bool),
    srWrites c k = [.bitWrite (offDyn c) 7 b7, .bitWrite (offDyn c) 6 b6, .bitWrite (offDyn c) 5 b5] →
    k ≤ 5 → s.req.wdata.toNat = 2 ^ k → 4 * b7.toNat + 2 * b6.toNat + b5.toNat = Nat.log2 s.req.wdata.toNat)

/-- Both kernels first reject an illegal KSR or KPPR with InvalidArgument. KTGT.ENC then answers 2047 for RPM 0, the truncated T = 60*KSR*8192 div (KPPR*WDATA) when it is 1 to 2046, and InvalidArgument otherwise. KTGT.DEC answers NoSignal for KCOUNT 0, 0 for 2047 under TGT_SENTINEL_DECODE = zero, and else the exact 60*KSR*8192/(KPPR*KCOUNT). -/
def Obligations.TargetKernelsAnswer : Prop :=
  (encode .ktgtEnc = 0xA700 ∧ encode .ktgtDec = 0xA800) ∧
  (∀ s : State,
    exec .ktgtEnc s = .next (s.accept.respond (
      if s.req.ksr.toNat ∉ [1, 2, 4, 8, 16, 32] ∨ s.req.kppr.toInt < 1 then .error .invalidArgument
      else if s.req.wdata.toNat = 0 then .ok 2047
      else if 1 ≤ 60 * s.req.ksr.toNat * 8192 / (s.req.kppr.toNat * s.req.wdata.toNat) ∧ 60 * s.req.ksr.toNat * 8192 / (s.req.kppr.toNat * s.req.wdata.toNat) ≤ 2046
        then .ok ((60 * s.req.ksr.toNat * 8192 / (s.req.kppr.toNat * s.req.wdata.toNat) : Nat) : Rat)
      else .error .invalidArgument)) ∧
    exec .ktgtDec s = .next (s.accept.respond (
      if s.req.ksr.toNat ∉ [1, 2, 4, 8, 16, 32] ∨ s.req.kppr.toInt < 1 then .error .invalidArgument
      else if s.req.kcount.toNat = 0 then .error .noSignal
      else if s.req.kcount.toNat = 2047 ∧ s.params.tgtSentinelDecode = .zero then .ok 0
      else .ok (((60 * s.req.ksr.toNat * 8192 : Nat) : Rat) / ((s.req.kppr.toNat * s.req.kcount.toNat : Nat) : Rat)))))

/-- KCONV.SPD answers WDATA*100/511 up to 511, KCONV.PPL KPPM3/1000 and KCONV.PPG KPPM3*473176473/125000000000 for a KPPM3 that is positive as a signed number; every other operand answers InvalidArgument; the encodings are those of the rules. -/
def Obligations.ScalarConversionKernels : Prop :=
  (encode .kconvSpd = 0x8100 ∧ encode .kconvPpl = 0x8500 ∧ encode .kconvPpg = 0x8600) ∧
  (∀ s : State,
    exec .kconvSpd s = .next (s.accept.respond (if 511 < s.req.wdata.toNat then .error .invalidArgument else .ok (((s.req.wdata.toNat * 100 : Nat) : Rat) / ((511 : Nat) : Rat)))) ∧
    exec .kconvPpl s = .next (s.accept.respond (if s.req.kppm3.toInt < 1 then .error .invalidArgument else .ok ((s.req.kppm3.toNat : Rat) / ((1000 : Nat) : Rat)))) ∧
    exec .kconvPpg s = .next (s.accept.respond (if s.req.kppm3.toInt < 1 then .error .invalidArgument else .ok (((s.req.kppm3.toNat * 473176473 : Nat) : Rat) / ((125000000000 : Nat) : Rat)))))

/-- Each kernel has the encoding of its rule, answers InvalidArgument for a KSR outside the set or (the revolution rates) a KPPR that is not positive as a signed number, then NoSignal for a count of 0 or 2047, and else the exact rational of its rule (t = KCOUNT, sr = KSR, n = KPPR). For a count with a signal the RPM is what TgtDec gives for that count. -/
def Obligations.PulseAndRevolutionKernels : Prop :=
  (encode .kconvPps = 0x8800 ∧ encode .kconvPpm = 0x8900 ∧ encode .kconvPph = 0x8A00 ∧ encode .kconvRps = 0x8B00 ∧ encode .kconvRpm = 0x8C00 ∧ encode .kconvRph = 0x8D00) ∧
  (∀ (s : State) (t sr n m : Nat), t = s.req.kcount.toNat → sr = s.req.ksr.toNat → n = s.req.kppr.toNat → m = s.req.kppm3.toNat →
    exec .kconvPps s = .next (s.accept.respond (if sr ∉ [1, 2, 4, 8, 16, 32] then .error .invalidArgument
      else if t = 0 ∨ t = 2047 then .error .noSignal else .ok (((sr * 8192 : Nat) : Rat) / ((t : Nat) : Rat)))) ∧
    exec .kconvPpm s = .next (s.accept.respond (if sr ∉ [1, 2, 4, 8, 16, 32] then .error .invalidArgument
      else if t = 0 ∨ t = 2047 then .error .noSignal else .ok (((60 * sr * 8192 : Nat) : Rat) / ((t : Nat) : Rat)))) ∧
    exec .kconvPph s = .next (s.accept.respond (if sr ∉ [1, 2, 4, 8, 16, 32] then .error .invalidArgument
      else if t = 0 ∨ t = 2047 then .error .noSignal else .ok (((3600 * sr * 8192 : Nat) : Rat) / ((t : Nat) : Rat)))) ∧
    exec .kconvRps s = .next (s.accept.respond (if sr ∉ [1, 2, 4, 8, 16, 32] ∨ s.req.kppr.toInt < 1 then .error .invalidArgument
      else if t = 0 ∨ t = 2047 then .error .noSignal else .ok (((sr * 8192 : Nat) : Rat) / ((t * n : Nat) : Rat)))) ∧
    exec .kconvRpm s = .next (s.accept.respond (if sr ∉ [1, 2, 4, 8, 16, 32] ∨ s.req.kppr.toInt < 1 then .error .invalidArgument
      else if t = 0 ∨ t = 2047 then .error .noSignal else .ok (((60 * sr * 8192 : Nat) : Rat) / ((t * n : Nat) : Rat)))) ∧
    exec .kconvRph s = .next (s.accept.respond (if sr ∉ [1, 2, 4, 8, 16, 32] ∨ s.req.kppr.toInt < 1 then .error .invalidArgument
      else if t = 0 ∨ t = 2047 then .error .noSignal else .ok (((3600 * sr * 8192 : Nat) : Rat) / ((t * n : Nat) : Rat))))) ∧
  (∀ (d : TgtSentinelDecode) (t : BitVec 11) (sr ppr ppm3 : Nat), t ≠ 0 → t ≠ 2047 → conv .rpm t sr ppr ppm3 = tgtDec d t sr ppr)

/-- Each kernel has the encoding of its rule, answers InvalidArgument for a KSR outside the set or a KPPM3 that is not positive as a signed number, then NoSignal for a count of 0 or 2047, and else the exact rational of its rule (t = KCOUNT, sr = KSR, m = KPPM3). -/
def Obligations.FlowKernels : Prop :=
  (encode .kconvM3ps = 0x8E00 ∧ encode .kconvM3pm = 0x8F00 ∧ encode .kconvM3ph = 0x9000 ∧ encode .kconvLps = 0x9100 ∧ encode .kconvLpm = 0x9200 ∧ encode .kconvLph = 0x9300 ∧ encode .kconvGps = 0x9400 ∧ encode .kconvGpm = 0x9500 ∧ encode .kconvGph = 0x9600) ∧
  (∀ (s : State) (t sr n m : Nat), t = s.req.kcount.toNat → sr = s.req.ksr.toNat → n = s.req.kppr.toNat → m = s.req.kppm3.toNat →
    exec .kconvM3ps s = .next (s.accept.respond (if sr ∉ [1, 2, 4, 8, 16, 32] ∨ s.req.kppm3.toInt < 1 then .error .invalidArgument
      else if t = 0 ∨ t = 2047 then .error .noSignal else .ok (((sr * 8192 : Nat) : Rat) / ((t * m : Nat) : Rat)))) ∧
    exec .kconvM3pm s = .next (s.accept.respond (if sr ∉ [1, 2, 4, 8, 16, 32] ∨ s.req.kppm3.toInt < 1 then .error .invalidArgument
      else if t = 0 ∨ t = 2047 then .error .noSignal else .ok (((60 * sr * 8192 : Nat) : Rat) / ((t * m : Nat) : Rat)))) ∧
    exec .kconvM3ph s = .next (s.accept.respond (if sr ∉ [1, 2, 4, 8, 16, 32] ∨ s.req.kppm3.toInt < 1 then .error .invalidArgument
      else if t = 0 ∨ t = 2047 then .error .noSignal else .ok (((3600 * sr * 8192 : Nat) : Rat) / ((t * m : Nat) : Rat)))) ∧
    exec .kconvLps s = .next (s.accept.respond (if sr ∉ [1, 2, 4, 8, 16, 32] ∨ s.req.kppm3.toInt < 1 then .error .invalidArgument
      else if t = 0 ∨ t = 2047 then .error .noSignal else .ok (((1000 * sr * 8192 : Nat) : Rat) / ((t * m : Nat) : Rat)))) ∧
    exec .kconvLpm s = .next (s.accept.respond (if sr ∉ [1, 2, 4, 8, 16, 32] ∨ s.req.kppm3.toInt < 1 then .error .invalidArgument
      else if t = 0 ∨ t = 2047 then .error .noSignal else .ok (((60000 * sr * 8192 : Nat) : Rat) / ((t * m : Nat) : Rat)))) ∧
    exec .kconvLph s = .next (s.accept.respond (if sr ∉ [1, 2, 4, 8, 16, 32] ∨ s.req.kppm3.toInt < 1 then .error .invalidArgument
      else if t = 0 ∨ t = 2047 then .error .noSignal else .ok (((3600000 * sr * 8192 : Nat) : Rat) / ((t * m : Nat) : Rat)))) ∧
    exec .kconvGps s = .next (s.accept.respond (if sr ∉ [1, 2, 4, 8, 16, 32] ∨ s.req.kppm3.toInt < 1 then .error .invalidArgument
      else if t = 0 ∨ t = 2047 then .error .noSignal else .ok (((sr * 8192 * 125000000000 : Nat) : Rat) / ((t * m * 473176473 : Nat) : Rat)))) ∧
    exec .kconvGpm s = .next (s.accept.respond (if sr ∉ [1, 2, 4, 8, 16, 32] ∨ s.req.kppm3.toInt < 1 then .error .invalidArgument
      else if t = 0 ∨ t = 2047 then .error .noSignal else .ok (((60 * sr * 8192 * 125000000000 : Nat) : Rat) / ((t * m * 473176473 : Nat) : Rat)))) ∧
    exec .kconvGph s = .next (s.accept.respond (if sr ∉ [1, 2, 4, 8, 16, 32] ∨ s.req.kppm3.toInt < 1 then .error .invalidArgument
      else if t = 0 ∨ t = 2047 then .error .noSignal else .ok (((3600 * sr * 8192 * 125000000000 : Nat) : Rat) / ((t * m * 473176473 : Nat) : Rat)))))

/-- Two states with the same parameters whose requests agree on the operands a kernel reads (WDATA for the codec kernels, KTGT.ENC and KCONV.SPD; the others of R133) give the same response to that kernel, whatever else differs: calibration state, chip registers, environment, and every operand the kernel does not read; and the kernel only accepts and responds, with no transaction. -/
def Obligations.KernelResponseDependsOnRequestOnly : Prop :=
  ∀ (i : Instr) (s1 s2 : State), i.isKernel = true → s1.params = s2.params →
    (i ∈ [.kdecMode, .kdecSr, .kdecDuty, .kdecTach, .kencSr, .kencDuty, .kencTach, .kconvSpd, .ktgtEnc] → s1.req.wdata = s2.req.wdata) →
    (i ∈ [.kconvPps, .kconvPpm, .kconvPph, .kconvRps, .kconvRpm, .kconvRph, .kconvM3ps, .kconvM3pm, .kconvM3ph,
        .kconvLps, .kconvLpm, .kconvLph, .kconvGps, .kconvGpm, .kconvGph, .ktgtDec] → s1.req.kcount = s2.req.kcount) →
    (i ∈ [.kconvPps, .kconvPpm, .kconvPph, .kconvRps, .kconvRpm, .kconvRph, .kconvM3ps, .kconvM3pm, .kconvM3ph,
        .kconvLps, .kconvLpm, .kconvLph, .kconvGps, .kconvGpm, .kconvGph, .ktgtEnc, .ktgtDec] → s1.req.ksr = s2.req.ksr) →
    (i ∈ [.kconvRps, .kconvRpm, .kconvRph, .ktgtEnc, .ktgtDec] → s1.req.kppr = s2.req.kppr) →
    (i ∈ [.kconvPpl, .kconvPpg, .kconvM3ps, .kconvM3pm, .kconvM3ph,
        .kconvLps, .kconvLpm, .kconvLph, .kconvGps, .kconvGpm, .kconvGph] → s1.req.kppm3 = s2.req.kppm3) →
    ∃ r, exec i s1 = .next (s1.accept.respond r) ∧ exec i s2 = .next (s2.accept.respond r)

/-- Replacing the whole request record under a GET, or every field but WDATA under a SET, changes the outcome in that record alone: the response, the transactions and every state are the same. With KernelResponseDependsOnRequestOnly this covers the three classes of command. -/
def Obligations.CommandsIgnoreUnreadFields : Prop :=
  ∀ (i : Instr) (s t : State) (r : Request), (i.isGet = true ∨ (i.isSet = true ∧ r.wdata = s.req.wdata)) →
    exec i s = .next t → exec i { s with req := r } = .next { t with req := r }

/-- Whatever a GET or a kernel answers, calibration state, parameters, input ports but req_valid, the host and every byte of the register space are as before; a kernel also leaves the environment alone and records no transaction. Only phase, the recorded transactions and the environment position can change. -/
def Obligations.GetAndKernelFrame : Prop :=
  ∀ (i : Instr) (s t : State), (i.isGet = true ∨ i.isKernel = true) → exec i s = .next t →
    t.params = s.params ∧ t.rst = s.rst ∧ t.req = s.req ∧ t.host = s.host ∧ t.reqValid = false ∧
    t.ppr = s.ppr ∧ t.ppm3 = s.ppm3 ∧ t.atEn = s.atEn ∧
    t.chip = s.chip ∧ (∀ a : Nat, readByte t.chip a = readByte s.chip a) ∧
    (i.isKernel = true → t.env = s.env ∧ t.trace = [])

/-- For every channel field and every WDATA, each of the three leaves the register space, the environment, the other two arrays and every other channel of its own array unchanged and records no transaction; on channel field 0 or 7 its whole array is unchanged too. -/
def Obligations.CalibrationSetFrame : Prop :=
  ∀ (i : Instr) (s t : State) (ch : BitVec 3), (i = .setPpr ch ∨ i = .setPpm3 ch ∨ i = .setAt ch) → exec i s = .next t →
    t.params = s.params ∧ t.rst = s.rst ∧ t.req = s.req ∧ t.host = s.host ∧ t.reqValid = false ∧
    t.chip = s.chip ∧ (∀ a : Nat, readByte t.chip a = readByte s.chip a) ∧ t.env = s.env ∧ t.trace = [] ∧
    (i ≠ .setPpr ch → t.ppr = s.ppr) ∧ (i ≠ .setPpm3 ch → t.ppm3 = s.ppm3) ∧ (i ≠ .setAt ch → t.atEn = s.atEn) ∧
    (∀ d : Channel, ch.toNat ≠ d.index + 1 →
      t.ppr.get d = s.ppr.get d ∧ t.ppm3.get d = s.ppm3.get d ∧ t.atEn.get d = s.atEn.get d)

/-- However the command ends, calibration state is unchanged and every byte of the register space outside the two bytes at OffDutySet(ch) for SET.PWM, at OffTgt(ch) for SET.TGT, reads as before; on channel field 0 or 7 every byte does. -/
def Obligations.WordSetFrame : Prop :=
  ∀ (i : Instr) (s t : State) (ch : BitVec 3), (i = .setPwm ch ∨ i = .setTgt ch) → exec i s = .next t →
    t.params = s.params ∧ t.rst = s.rst ∧ t.req = s.req ∧ t.host = s.host ∧ t.reqValid = false ∧
    t.ppr = s.ppr ∧ t.ppm3 = s.ppm3 ∧ t.atEn = s.atEn ∧
    (∀ (c : Channel) (off : Byte), ch.toNat = c.index + 1 → off = (if i = .setPwm ch then offDutySet c else offTgt c) →
      ∀ a : Nat, a ≠ off.toNat → a ≠ off.toNat + 1 → readByte t.chip a = readByte s.chip a) ∧
    ((ch = 0 ∨ ch = 7) → ∀ a : Nat, readByte t.chip a = readByte s.chip a)

/-- However the command ends, calibration state is unchanged, bits 4:0 of Fan dynamics (SET.SR) or bits 6:0 of Fan config (SET.MODE) of the channel are unchanged, and every other byte of the register space reads as before; on channel field 0 or 7 every byte does. -/
def Obligations.BitSetFrame : Prop :=
  ∀ (i : Instr) (s t : State) (ch : BitVec 3), (i = .setSr ch ∨ i = .setMode ch) → exec i s = .next t →
    t.params = s.params ∧ t.rst = s.rst ∧ t.req = s.req ∧ t.host = s.host ∧ t.reqValid = false ∧
    t.ppr = s.ppr ∧ t.ppm3 = s.ppm3 ∧ t.atEn = s.atEn ∧
    (∀ (c : Channel) (off : Byte) (low : Nat), ch.toNat = c.index + 1 → off = (if i = .setSr ch then offDyn c else offCfg c) →
      low = (if i = .setSr ch then 5 else 7) →
      (∀ a : Nat, a ≠ off.toNat → readByte t.chip a = readByte s.chip a) ∧
      (∀ j : Nat, j < low → (readByte t.chip off.toNat).getLsbD j = (readByte s.chip off.toNat).getLsbD j)) ∧
    ((ch = 0 ∨ ch = 7) → ∀ a : Nat, readByte t.chip a = readByte s.chip a)

/-- If a command changes one of the three calibration arrays at some channel, it is the one setter of that array on that channel, it answered OK, and the new value is its operand. -/
def Obligations.CalibrationHasOneWriter : Prop :=
  ∀ (i : Instr) (s t : State) (d : Channel), exec i s = .next t →
    (t.ppr.get d ≠ s.ppr.get d → (∃ ch, i = .setPpr ch ∧ ch.toNat = d.index + 1) ∧ t.ppr.get d = s.req.wdata ∧ 1 ≤ s.req.wdata.toInt ∧ t.response = some (.ok 0)) ∧
    (t.ppm3.get d ≠ s.ppm3.get d → (∃ ch, i = .setPpm3 ch ∧ ch.toNat = d.index + 1) ∧ t.ppm3.get d = s.req.wdata ∧ 1 ≤ s.req.wdata.toInt ∧ t.response = some (.ok 0)) ∧
    (t.atEn.get d ≠ s.atEn.get d → (∃ ch, i = .setAt ch ∧ ch.toNat = d.index + 1) ∧ t.atEn.get d = s.req.wdata.getLsbD 0 ∧ t.response = some (.ok 0))

/-- A command that ends with a status other than OK leaves PPR, PPM3 and AT_EN as they were and RES is 0; none of its successful transactions is a write, unless it is a SET.SR that ended with TransportError, of which at most two bit writes on bits of the speed-range code succeeded; and with any status but TransportError the register space is untouched. What a failed write transaction itself leaves is not restricted. -/
def Obligations.FailingCommandHasNoEffect : Prop :=
  ∀ (i : Instr) (s t : State) (st : Status), exec i s = .next t → t.response = some (.error st) →
    t.ppr = s.ppr ∧ t.ppm3 = s.ppm3 ∧ t.atEn = s.atEn ∧ t.resPort = some 0 ∧
    (st ≠ .transportError → t.chip = s.chip) ∧
    (∀ x ∈ t.trace, x.wrote = true →
      st = .transportError ∧ (∃ ch c, i = .setSr ch ∧ ch.toNat = c.index + 1 ∧
        ∃ (j : Fin 8) (b : Bool), x.op = .bitWrite (offDyn c) j b ∧ (j = 7 ∨ j = 6))) ∧
    (t.trace.filter Transaction.wrote).length ≤ 2

/-- A command answers TransportError exactly when one of its transactions failed; that transaction is the last one recorded, so none follows it and none is retried; and a kernel, which issues none, never answers it. -/
def Obligations.TransportErrorEndsTheCommand : Prop :=
  ∀ (i : Instr) (s t : State), exec i s = .next t →
    (t.response = some (.error .transportError) ↔ ∃ x ∈ t.trace, x.outcome = .failed) ∧
    (∀ (pre post : List Transaction) (x : Transaction), t.trace = pre ++ x :: post → x.outcome = .failed → post = []) ∧
    (i.isKernel = true → t.response ≠ some (.error .transportError))

/-- A command leaves the block busy exactly when its last transaction is pending; a busy block without reset, whose host has no reset next, has no step; with reset the step leaves it idle, with no response for the abandoned command and with every chip register as the transactions before left it. (That the missing step is the fault busNeverAnswers is the model's reading, log 8; that a reset during a command is a pending transaction followed by the reset edge is its reading of R271, log 9; that a waiting auto-tune invocation is given up is its choice, log 14. The calibration values after a reset are in ResetEdge.) -/
def Obligations.PendingTransactionLeavesTheBlockBusy : Prop :=
  (∀ (i : Instr) (s t : State), exec i s = .next t →
    (t.phase = .busy ↔ ∃ pre x, t.trace = pre ++ [x] ∧ x.outcome = .pending)) ∧
  (∀ s : State, s.phase = .busy → s.rst = false → s.host.program.head? ≠ some .reset → step s = .fault .busNeverAnswers) ∧
  (∀ s : State, s.phase = .busy → s.rst = true →
    ∃ t, step s = .next t ∧ t.phase = .idle ∧ t.response = none ∧ t.chip = s.chip ∧ t.host.tuner = none)

/-- When every transaction succeeds: none for GET.PPR, GET.PPM3, GET.PPL, GET.PPG and GET.AT; one for GET.PWM, GET.SPD, GET.TAC and GET.MODE; three for GET.SR; for a rate get one if the count read is 0 or 2047 and else four; for GET.TGT one if the raw target is 0, or is 2047 under TGT_SENTINEL_DECODE = zero, and else four. On channel field 0 or 7: none. -/
def Obligations.TransactionCountsGet : Prop :=
  ∀ (i : Instr) (s t : State) (ch : BitVec 3), exec i s = .next t → noneFailed t →
    (i ∈ [.getPpr ch, .getPpm3 ch, .getPpl ch, .getPpg ch, .getAt ch] → t.trace = []) ∧
    ((ch = 0 ∨ ch = 7) → i.channel = some ch → t.trace = []) ∧
    (∀ c : Channel, ch.toNat = c.index + 1 →
      (i ∈ [.getPwm ch, .getSpd ch, .getTac ch, .getMode ch] → t.trace.length = 1) ∧
      (i = .getSr ch → t.trace.length = 3) ∧
      (∀ tag : RateTag, i = tag.getInstr ch →
        ∃ w rest, t.trace = ⟨s.params.devAddr, .memRead (offTach c), .done w⟩ :: rest ∧
          rest.length = (if w.toNat / 32 = 0 ∨ w.toNat / 32 = 2047 then 0 else 3)) ∧
      (i = .getTgt ch →
        ∃ w rest, t.trace = ⟨s.params.devAddr, .memRead (offTgt c), .done w⟩ :: rest ∧
          rest.length = (if w.toNat / 32 = 0 ∨ (w.toNat / 32 = 2047 ∧ s.params.tgtSentinelDecode = .zero) then 0 else 3)))

/-- When every transaction succeeds on a legal channel: none for SET.PPR, SET.PPM3 and SET.AT; one for SET.PWM with a legal operand and for SET.MODE, three for SET.SR with a legal operand, none with an illegal one; SET.TGT issues one for RPM 0, four when it answers OK and three, all reads, when it answers InvalidArgument or UnrecognizedEncoding. -/
def Obligations.TransactionCountsSet : Prop :=
  ∀ (i : Instr) (s t : State) (ch : BitVec 3) (c : Channel), ch.toNat = c.index + 1 → exec i s = .next t → noneFailed t →
    (i ∈ [.setPpr ch, .setPpm3 ch, .setAt ch] → t.trace = []) ∧
    (i = .setPwm ch → t.trace.length = (if s.req.wdata.toNat ≤ 511 then 1 else 0)) ∧
    (i = .setMode ch → t.trace.length = 1) ∧
    (i = .setSr ch → t.trace.length = (if s.req.wdata.toNat ∈ [1, 2, 4, 8, 16, 32] then 3 else 0)) ∧
    (i = .setTgt ch → s.req.wdata.toNat = 0 → t.trace.length = 1) ∧
    (i = .setTgt ch → s.req.wdata.toNat ≠ 0 →
      (t.response = some (.ok 0) → t.trace.length = 4) ∧
      (t.response = some (.error .invalidArgument) ∨ t.response = some (.error .unrecognizedEncoding) →
        t.trace.length = 3 ∧ ∀ x ∈ t.trace, x.op.mayWrite = []))

/-- Every transaction of every command passes DEV_ADDR unchanged and is one bit of Fan config (bit 7) or Fan dynamics (bits 7, 6, 5), or a two-byte access to one of the four two-byte register classes, with writes only to PWM out / duty set and Tach target; so every byte touched lies at or below 0x5B and two-byte registers start at an even offset. -/
def Obligations.TransactionsStayOnTheMap : Prop :=
  ∀ (i : Instr) (s t : State), exec i s = .next t → ∀ x ∈ t.trace,
    x.dev = s.params.devAddr ∧ x.op.onMap ∧ (∀ a ∈ x.op.mayWrite, a ≤ 0x5B) ∧
    (∀ off, x.op = .memRead off → off.toNat % 2 = 0 ∧ off.toNat + 1 ≤ 0x5B) ∧
    (∀ off w, x.op = .memWrite off w → off.toNat % 2 = 0 ∧ off.toNat + 1 ≤ 0x5B)

/-- For every channel the six offset functions have the values of the rule, OffDutyRd from base 0x30 or 0x40. -/
def Obligations.OffsetMap : Prop :=
  ∀ c : Channel,
    (offCfg c).toNat = 0x02 + c.index ∧ (offDyn c).toNat = 0x08 + c.index ∧ (offTach c).toNat = 0x18 + c.index * 2 ∧
    (offDutyRd .readback c).toNat = 0x30 + c.index * 2 ∧ (offDutyRd .dutySet c).toNat = 0x40 + c.index * 2 ∧
    Params.default.dutyRdBase = .readback ∧
    (offDutySet c).toNat = 0x40 + c.index * 2 ∧ (offTgt c).toNat = 0x50 + c.index * 2

/-- A command answers UnrecognizedEncoding only under SR_UNMATCHED = error and only if it is GET.SR, a rate get, GET.TGT, SET.TGT or KDEC.SR, and the three bits it read, or the byte in WDATA, spell code 6 or 7; conversely those bits give that answer (these two clauses are R247). The third clause is the part of R245 that says which commands raise NoSignal: only a rate get, a rate kernel, GET.TGT and KTGT.DEC; for which counts and raw targets they do is in the statements about those commands. -/
def Obligations.StatusesByCommand : Prop :=
  (∀ (i : Instr) (s t : State), exec i s = .next t → t.response = some (.error .unrecognizedEncoding) →
    s.params.srUnmatched = .error ∧
    ((i = .kdecSr ∧ 6 ≤ s.req.wdata.toNat / 32 % 8) ∨
     (∃ (c : Channel) (ch : BitVec 3) (b7 b6 b5 : Word16) (pre : List Transaction),
      ch.toNat = c.index + 1 ∧ (i = .getSr ch ∨ i = .getTgt ch ∨ i = .setTgt ch ∨ ∃ tag : RateTag, i = tag.getInstr ch) ∧
      6 ≤ codeOf b7 b6 b5 ∧
      t.trace = pre ++ [⟨s.params.devAddr, .bitRead (offDyn c) 7, .done b7⟩, ⟨s.params.devAddr, .bitRead (offDyn c) 6, .done b6⟩,
        ⟨s.params.devAddr, .bitRead (offDyn c) 5, .done b5⟩]))) ∧
  (∀ (i : Instr) (s t : State), exec i s = .next t → s.params.srUnmatched = .error →
    (i = .kdecSr → 6 ≤ s.req.wdata.toNat / 32 % 8 → t.response = some (.error .unrecognizedEncoding)) ∧
    (∀ (c : Channel) (b7 b6 b5 : Word16) (pre post : List Transaction), 6 ≤ codeOf b7 b6 b5 →
      t.trace = pre ++ [⟨s.params.devAddr, .bitRead (offDyn c) 7, .done b7⟩, ⟨s.params.devAddr, .bitRead (offDyn c) 6, .done b6⟩,
        ⟨s.params.devAddr, .bitRead (offDyn c) 5, .done b5⟩] ++ post →
      t.response = some (.error .unrecognizedEncoding))) ∧
  (∀ (i : Instr) (s t : State), exec i s = .next t → t.response = some (.error .noSignal) →
    i = .ktgtDec ∨ (∃ ch, i = .getTgt ch) ∨ ∃ tag : RateTag, i = tag.kernelInstr ∨ ∃ ch, i = tag.getInstr ch)

/-- In the response cycle STATUS is the code of the status, 0 to 5 for those the block gives, and RES is floor(val * 2^FRAC) when that fits 64 bits and 0 for a status other than OK; outside it the port holds no response. (The last clause is the model's reading, log 15.) -/
def Obligations.ResponsePort : Prop :=
  (Status.ok.code = 0 ∧ Status.invalidChannel.code = 1 ∧ Status.invalidArgument.code = 2 ∧ Status.noSignal.code = 3 ∧
    Status.transportError.code = 4 ∧ Status.unrecognizedEncoding.code = 5 ∧ Status.tuningUnreachable.code = 6 ∧
    Status.didNotConverge.code = 7) ∧
  (∀ (s : State) (st : Status), s.response = some (.error st) → s.rspValid = true ∧ s.statusPort = some st.code ∧ s.resPort = some 0) ∧
  (∀ (s : State) (v : Rat), s.response = some (.ok v) → 0 ≤ v → v * 2 ^ s.params.frac < 2 ^ 64 →
    s.statusPort = some 0 ∧ ∃ w : Word64, s.resPort = some w ∧ (w.toNat : Int) = (v * 2 ^ s.params.frac).floor) ∧
  (∀ s : State, s.response = none → s.rspValid = false ∧ s.statusPort = none ∧ s.resPort = none)

/-- EncSR of 1, 2, 4, 8, 16, 32 is the 3-bit code log2, of every other number InvalidArgument; and DecSR of the code in bits 7:5 of a byte gives the speed range back, whatever SR_UNMATCHED is and whatever stands in bits 4:0. -/
def Obligations.SpeedRangeCodec : Prop :=
  (∀ sr : Nat, sr ∈ [1, 2, 4, 8, 16, 32] → ∃ code : BitVec 3, encSR sr = .ok code ∧ code.toNat = Nat.log2 sr ∧ code.toNat ≤ 5 ∧
    ∀ (u : SrUnmatched) (low : BitVec 5), decSR u (code ++ low) = .ok sr) ∧
  (∀ sr : Nat, sr ∉ [1, 2, 4, 8, 16, 32] → encSR sr = .error .invalidArgument)

/-- DecDuty of two bytes is their big-endian word shifted right by 7, b0*2 + b1[7]; DecTach is it shifted by 5, b0*8 + b1[7:5]; EncDuty and EncTach shift a value in range left and reject any other with InvalidArgument; decoding the bytes of an encoded value gives it back for every value in range. -/
def Obligations.DutyAndTachCodecs : Prop :=
  (∀ b0 b1 : Byte,
    (decDuty (wordOf b0 b1)).toNat = (b0.toNat * 256 + b1.toNat) / 128 ∧ (decDuty (wordOf b0 b1)).toNat = b0.toNat * 2 + b1.toNat / 128 ∧
    (decTach (wordOf b0 b1)).toNat = (b0.toNat * 256 + b1.toNat) / 32 ∧ (decTach (wordOf b0 b1)).toNat = b0.toNat * 8 + b1.toNat / 32) ∧
  (∀ v : Nat, v ≤ 511 → ∃ w, encDuty v = .ok w ∧ w.toNat = v * 128 ∧ (hiByte w).toNat = v / 2 ∧ (loByte w).toNat = v % 2 * 128 ∧
    (decDuty (wordOf (hiByte w) (loByte w))).toNat = v) ∧
  (∀ v : Nat, 511 < v → encDuty v = .error .invalidArgument) ∧
  (∀ t : Nat, t ≤ 2047 → ∃ w, encTach t = .ok w ∧ w.toNat = t * 32 ∧ (hiByte w).toNat = t / 8 ∧ (loByte w).toNat = t % 8 * 32 ∧
    (decTach (wordOf (hiByte w) (loByte w))).toNat = t) ∧
  (∀ t : Nat, 2047 < t → encTach t = .error .invalidArgument)

/-- For a legal speed range and PPR and every 32-bit RPM: RPM 0 gives 2047; otherwise T = (60*sr*8192) div (ppr*rpm) when it is 1 to 2046 and InvalidArgument else; and that is legal exactly when 491520*sr/(2047*ppr) < rpm <= 491520*sr/ppr. The numerator is at most 15728640 and the product below 2^63. -/
def Obligations.TargetEncodingRange : Prop :=
  ∀ rpm sr ppr : Nat, rpm < 2 ^ 32 → sr ∈ [1, 2, 4, 8, 16, 32] → 1 ≤ ppr → ppr < 2 ^ 31 →
    60 * sr * 8192 ≤ 15728640 ∧ ppr * rpm < 2 ^ 63 ∧
    (rpm = 0 → tgtEnc rpm sr ppr = .ok 2047) ∧
    (rpm ≠ 0 → ∀ tg : Nat, tg = (60 * sr * 8192) / (ppr * rpm) →
      (1 ≤ tg → tg ≤ 2046 → tgtEnc rpm sr ppr = .ok tg) ∧ (tg = 0 ∨ 2046 < tg → tgtEnc rpm sr ppr = .error .invalidArgument)) ∧
    (rpm ≠ 0 → ((∃ tg, tgtEnc rpm sr ppr = .ok tg) ↔
      ((491520 * sr : Nat) : Rat) / ((2047 * ppr : Nat) : Rat) < (rpm : Rat) ∧ (rpm : Rat) ≤ ((491520 * sr : Nat) : Rat) / ((ppr : Nat) : Rat)))

/-- For a legal speed range and PPR and a raw target t: 2047 gives 0 or the identity at 2047 as TGT_SENTINEL_DECODE says, 0 gives NoSignal, any other t the exact 60*sr*8192/(ppr*t). And for rpm > 0 with a legal encoding, decoding it gives at least rpm, exactly rpm when ppr*rpm divides 491520*sr and only then. -/
def Obligations.TargetRoundTrip : Prop :=
  ∀ sr ppr : Nat, sr ∈ [1, 2, 4, 8, 16, 32] → 1 ≤ ppr → ppr < 2 ^ 31 →
    (tgtDec .zero 2047 sr ppr = .ok 0) ∧
    (tgtDec .identity 2047 sr ppr = .ok (((491520 * sr : Nat) : Rat) / ((ppr * 2047 : Nat) : Rat))) ∧
    (∀ m, tgtDec m 0 sr ppr = .error .noSignal) ∧
    (∀ m (t : BitVec 11), t ≠ 0 → t ≠ 2047 → tgtDec m t sr ppr = .ok (((60 * sr * 8192 : Nat) : Rat) / ((ppr * t.toNat : Nat) : Rat))) ∧
    (∀ (m : TgtSentinelDecode) (rpm tg : Nat), 1 ≤ rpm → tgtEnc rpm sr ppr = .ok tg →
      ∃ v, tgtDec m (BitVec.ofNat 11 tg) sr ppr = .ok v ∧ (rpm : Rat) ≤ v ∧ (v = (rpm : Rat) ↔ ppr * rpm ∣ 491520 * sr))

/-- For legal operands and a count with a signal, the values of the 15 rate tags satisfy the exact identities of the spec on val: minute and hour rates are 60 and 3600 times the second rate, RPS*ppr = PPS, LPS = 1000*M3PS, GPS = LPS*125000000/473176473, PPL*LPS = PPS and PPG*GPS = PPS. (The spec states them for RES only up to truncation; that part is not stated here.) -/
def Obligations.RateIdentities : Prop :=
  ∀ (count : BitVec 11) (sr ppr ppm3 : Nat), sr ∈ [1, 2, 4, 8, 16, 32] → 1 ≤ ppr → 1 ≤ ppm3 → count ≠ 0 → count ≠ 2047 →
    ∃ f : RateTag → Rat, (∀ tag, conv tag count sr ppr ppm3 = .ok (f tag)) ∧
      f .ppm = 60 * f .pps ∧ f .pph = 3600 * f .pps ∧ f .rpm = 60 * f .rps ∧ f .rph = 3600 * f .rps ∧
      f .rps * (ppr : Rat) = f .pps ∧ f .m3pm = 60 * f .m3ps ∧ f .m3ph = 3600 * f .m3ps ∧
      f .lps = 1000 * f .m3ps ∧ f .lpm = 60 * f .lps ∧ f .lph = 3600 * f .lps ∧
      f .gps = f .lps * 125000000 / 473176473 ∧ f .gpm = 60 * f .gps ∧ f .gph = 3600 * f .gps ∧
      pulsesPerLitre ppm3 * f .lps = f .pps ∧ pulsesPerGallon ppm3 * f .gps = f .pps

/-- For legal operands and a count in 1 to 2046, every rate is strictly positive and at most the bound of its tag, which it attains at count 1, speed range 32 and calibration 1; PPS is at least 4096/1023, attained at count 2046 and speed range 1; the bounds of GPM and GPH are 60 and 3600 times that of GPS. -/
def Obligations.RateRanges : Prop :=
  ∃ bound : RateTag → Rat,
    bound .pps = 262144 ∧ bound .ppm = 15728640 ∧ bound .pph = 943718400 ∧ bound .rps = 262144 ∧ bound .rpm = 15728640 ∧ bound .rph = 943718400 ∧ bound .m3ps = 262144 ∧ bound .m3pm = 15728640 ∧ bound .m3ph = 943718400 ∧ bound .lps = 262144000 ∧ bound .lpm = 15728640000 ∧ bound .lph = 943718400000 ∧ bound .gps = 32768000000000000 / 473176473 ∧ bound .gpm = 60 * 32768000000000000 / 473176473 ∧ bound .gph = 3600 * 32768000000000000 / 473176473 ∧
    (∀ (tag : RateTag) (count : BitVec 11) (sr ppr ppm3 : Nat), sr ∈ [1, 2, 4, 8, 16, 32] → 1 ≤ ppr → 1 ≤ ppm3 →
      1 ≤ count.toNat → count.toNat ≤ 2046 →
      ∃ v, conv tag count sr ppr ppm3 = .ok v ∧ 0 < v ∧ v ≤ bound tag ∧ (tag = .pps → 4096 / 1023 ≤ v)) ∧
    (∀ tag : RateTag, conv tag 1 32 1 1 = .ok (bound tag)) ∧
    (∀ ppr ppm3 : Nat, conv .pps 2046 1 ppr ppm3 = .ok (4096 / 1023))

/-- For fixed legal speed range and calibration, a larger count below 2047 gives a strictly smaller rate, for every tag. -/
def Obligations.RatesDecreaseInCount : Prop :=
  ∀ (tag : RateTag) (c1 c2 : BitVec 11) (sr ppr ppm3 : Nat) (v1 v2 : Rat), sr ∈ [1, 2, 4, 8, 16, 32] → 1 ≤ ppr → 1 ≤ ppm3 →
    c1.toNat < c2.toNat → conv tag c1 sr ppr ppm3 = .ok v1 → conv tag c2 sr ppr ppm3 = .ok v2 → v2 < v1

/-- From every state with legal calibration and FRAC = 24, if a command answers OK with value val then 0 <= val < 2^40, so val * 2^24 fits the 64 bits of RES, which carry its floor; no value exceeds 943718400000, the one KCONV.LPH and GET.LPH give at count 1, speed range 32 and PPM3 1; a value below 2^-24 leaves as RES = 0 with status OK. -/
def Obligations.ResultPortNeverOverflows : Prop :=
  (∀ (i : Instr) (s t : State) (v : Rat), CalLegal s → s.params.frac = 24 → exec i s = .next t → t.response = some (.ok v) →
    0 ≤ v ∧ v ≤ 943718400000 ∧ v < 2 ^ 40 ∧ t.statusPort = some 0 ∧
    ∃ w : Word64, t.resPort = some w ∧ (w.toNat : Int) = (v * 2 ^ 24).floor ∧ (v < 1 / 2 ^ 24 → w = 0)) ∧
  (∀ s : State, s.req.kcount = 1 → s.req.ksr = 32 → s.req.kppm3 = 1 → exec .kconvLph s = .next (s.accept.respond (.ok 943718400000))) ∧
  (∀ (s s1 : State) (ch : BitVec 3) (c : Channel) (wt b7 b6 b5 : Word16), ch.toNat = c.index + 1 →
    issueAll s.accept (rateReads c) = some ([wt, b7, b6, b5], s1) → wt.toNat / 32 = 1 → codeOf b7 b6 b5 = 5 → s.ppm3.get c = 1 →
    exec (.getLph ch) s = .next (s1.respond (.ok 943718400000)))

/-- From every state, reachable or not, with legal calibration (PPR and PPM3 of every channel positive), a register image in canonical form, at most four recorded transactions and no response outside the six statuses of the block, every step that gives a next state gives one with the same properties. (The canonical form of the image and the recorded list are the model's representation, logs 5 and 16.) -/
def Obligations.StepKeepsTheInvariant : Prop :=
  ∀ s t : State, Inv s → step s = .next t → Inv t

/-- The machine right after reset has what Inv says: legal calibration on every channel, a register image in canonical form, at most four recorded transactions, and a phase the block may be in. (An image with nothing listed is the model's choice, log 5; the recorded list is its representation, log 16.) -/
def Obligations.ResetMeetsTheInvariant : Prop :=
  Inv State.reset

/-- In every state with rst = 1, whatever the block is doing, the step sets PPR to 2, PPM3 to 1000000 and AT_EN to 0 on every channel, leaves no command in progress, req_ready = 1 and rsp_valid = 0, and leaves every chip register and the environment as they were, so no transaction is issued (R270, R40). That the list of recorded transactions is empty after it is the model's choice, log 16, and that the parameters, fields of the state, stay is log 10. -/
def Obligations.ResetEdge : Prop :=
  ∀ s : State, s.rst = true → ∃ t, step s = .next t ∧
    (∀ c : Channel, (t.ppr.get c).toNat = 2 ∧ (t.ppm3.get c).toNat = 1000000 ∧ t.atEn.get c = false) ∧
    t.phase = .idle ∧ t.reqReady = true ∧ t.rspValid = false ∧ t.trace = [] ∧
    t.chip = s.chip ∧ (∀ a : Nat, readByte t.chip a = readByte s.chip a) ∧ t.env = s.env ∧ t.params = s.params

/-- On a legal channel and for WDATA = 2^k, when the environment completes the first j bit writes (j = 1 or 2) and fails the next one without effect, the command answers TransportError and bits 7:5 of Fan dynamics hold the new bits for the j writes done and the old bits for the rest; the other bits are unchanged. -/
def Obligations.PartialSpeedRangeWrite : Prop :=
  ∀ (s : State) (ch : BitVec 3) (c : Channel) (k j : Nat) (rest : List BusAnswer), ch.toNat = c.index + 1 → k ≤ 5 → s.req.wdata.toNat = 2 ^ k →
    (j = 1 ∨ j = 2) → s.env.script = List.replicate j .memory ++ .fail none :: rest →
    ∃ t, exec (.setSr ch) s = .next t ∧ t.response = some (.error .transportError) ∧ t.trace.length = j + 1 ∧
      ∀ b : Nat, b < 8 → (readByte t.chip (offDyn c).toNat).getLsbD b =
        (if 7 - j < b then k.testBit (b - 5) else (readByte s.chip (offDyn c).toNat).getLsbD b)

/-- On a legal channel the command after a SET that answered OK sees its effect: on MEMBUS, SET.SR then GET.SR answers the speed range, SET.PWM then GET.PWM the raw duty when DUTY_RD_BASE is 0x40, SET.MODE then GET.MODE the mode; in every environment SET.PPR, SET.PPM3 and SET.AT then their GET answer the value set. The second command starts from the state the first left, idle again and with any request. -/
def Obligations.SetThenGetReturnsTheValue : Prop :=
  ∀ (s : State) (ch : BitVec 3) (c : Channel) (r : Request), ch.toNat = c.index + 1 →
    (OnMembus s →
      (s.req.wdata.toNat ∈ [1, 2, 4, 8, 16, 32] → ∃ t u, exec (.setSr ch) s = .next t ∧ t.response = some (.ok 0) ∧
        exec (.getSr ch) { t with phase := .idle, req := r } = .next u ∧ u.response = some (.ok (s.req.wdata.toNat : Rat))) ∧
      (s.req.wdata.toNat ≤ 511 → s.params.dutyRdBase = .dutySet → ∃ t u, exec (.setPwm ch) s = .next t ∧ t.response = some (.ok 0) ∧
        exec (.getPwm ch) { t with phase := .idle, req := r } = .next u ∧ u.response = some (.ok (s.req.wdata.toNat : Rat))) ∧
      (∃ t u, exec (.setMode ch) s = .next t ∧ t.response = some (.ok 0) ∧
        exec (.getMode ch) { t with phase := .idle, req := r } = .next u ∧
        u.response = some (.ok (if s.req.wdata.getLsbD 0 then 1 else 0)))) ∧
    (1 ≤ s.req.wdata.toInt →
      (∃ t u, exec (.setPpr ch) s = .next t ∧ exec (.getPpr ch) { t with phase := .idle, req := r } = .next u ∧
        u.response = some (.ok (s.req.wdata.toNat : Rat))) ∧
      (∃ t u, exec (.setPpm3 ch) s = .next t ∧ exec (.getPpm3 ch) { t with phase := .idle, req := r } = .next u ∧
        u.response = some (.ok (s.req.wdata.toNat : Rat)))) ∧
    (∃ t u, exec (.setAt ch) s = .next t ∧ exec (.getAt ch) { t with phase := .idle, req := r } = .next u ∧
      u.response = some (.ok (if s.req.wdata.getLsbD 0 then 1 else 0)))

/-- On a legal channel with legal calibration and on MEMBUS, when SET.TGT answers OK, GET.TGT from the state it left (idle again, any request) answers 0 for RPM 0 under TGT_SENTINEL_DECODE = zero, and a value at least the RPM set otherwise. -/
def Obligations.SetTargetThenGetTarget : Prop :=
  ∀ (s t : State) (ch : BitVec 3) (c : Channel) (r : Request), ch.toNat = c.index + 1 → OnMembus s → CalLegal s →
    exec (.setTgt ch) s = .next t → t.response = some (.ok 0) →
    ∃ u v, exec (.getTgt ch) { t with phase := .idle, req := r } = .next u ∧
      (s.req.wdata.toNat = 0 → s.params.tgtSentinelDecode = .zero → u.response = some (.ok 0)) ∧
      (s.req.wdata.toNat ≠ 0 → u.response = some (.ok v) ∧ (s.req.wdata.toNat : Rat) ≤ v)

/-- For a legal speed range: with an average of at most 1000 and a range below 32 the table always changes the range, by row 5 to twice it (average above 500, range up to 8), by row 6 to four times it (above 250, up to 4), by row 7 to eight times it (above 125, 1 or 2), by row 8 to 16 (above 62, only from 1) and by row 9 to 32; row 3 halves the range above 2040; rows 5 to 9 fire in no other case, so every SET.SR operand is legal. -/
def Obligations.TunerDecisions : Prop :=
  ∀ (avg : Rat) (sr : Nat), sr ∈ [1, 2, 4, 8, 16, 32] →
    (∀ n, tuneRow avg sr = .setSr n → n ∈ [1, 2, 4, 8, 16, 32]) ∧
    (avg > 2040 → sr > 1 → tuneRow avg sr = .setSr (sr / 2) ∧ sr / 2 ∈ [1, 2, 4, 8, 16]) ∧
    (avg > 2040 → sr = 1 → tuneRow avg sr = .unreachable) ∧
    (avg ≤ 2040 → (sr = 32 ∨ avg > 1000) → tuneRow avg sr = .stop) ∧
    (avg ≤ 1000 → sr < 32 → ∃ n, tuneRow avg sr = .setSr n ∧ n ∈ [2, 4, 8, 16, 32] ∧
      n = (if avg > 500 ∧ sr ∈ [1, 2, 4, 8] then sr * 2
        else if avg > 250 ∧ sr ∈ [1, 2, 4] then sr * 4
        else if avg > 125 ∧ sr ∈ [1, 2] then sr * 8
        else if avg > 62 ∧ sr = 1 then 16 else 32))

/-- In the response cycle, without reset, req_ready is 0 and rsp_valid is 1; the step that ends it raises req_ready and drops rsp_valid, and leaves calibration, chip registers and environment as they were. While a command waits for the bus both are 0. (That the end of the cycle is one step is the model's reading, log 2.) -/
def Obligations.HandshakeAfterResponse : Prop :=
  (∀ (s : State) (r : Result), s.rst = false → s.phase = .responding r → s.reqReady = false ∧ s.rspValid = true ∧
    ∃ t, step s = .next t ∧ t.phase = .idle ∧ t.reqReady = true ∧ t.rspValid = false ∧
      t.ppr = s.ppr ∧ t.ppm3 = s.ppm3 ∧ t.atEn = s.atEn ∧ t.chip = s.chip ∧ t.env = s.env ∧ t.params = s.params) ∧
  (∀ s : State, s.phase = .busy → s.reqReady = false ∧ s.rspValid = false)
end

