-- ==== Sys2Proof/Laws/Memory.lean ====
section
/-! SUPPORT. Laws of the chip's register image: a read after a write to the same offset gives the value written, a write leaves every other offset alone, and every
operation keeps the canonical form. -/

namespace Sys2Proof.Machine

theorem readByte_eraseByte_same (m : Memory) (a : Nat) : readByte (eraseByte m a) a = unlistedByte := by
  induction m with
  | nil => rfl
  | cons e t ih =>
    obtain ⟨k, v⟩ := e
    by_cases h : k = a <;> simp [eraseByte, readByte, h, ih]

theorem readByte_eraseByte_other (m : Memory) {a x : Nat} (hx : x ≠ a) :
    readByte (eraseByte m a) x = readByte m x := by
  induction m with
  | nil => rfl
  | cons e t ih =>
    obtain ⟨k, v⟩ := e
    by_cases h : k = a
    · have : ¬ a = x := fun e => hx e.symm
      simp [eraseByte, readByte, h, ih, this]
    · simp [eraseByte, readByte, h, ih]

theorem readByte_insertByte_other (m : Memory) {a x : Nat} (b : Byte) (hx : x ≠ a) :
    readByte (insertByte m a b) x = readByte m x := by
  have hax : ¬ a = x := fun e => hx e.symm
  induction m with
  | nil => simp [insertByte, readByte, hax]
  | cons e t ih =>
    obtain ⟨k, v⟩ := e
    by_cases h : a < k <;> simp [insertByte, readByte, h, ih, hax]

theorem readByte_insertByte_erased (m : Memory) (a : Nat) (b : Byte) :
    readByte (insertByte (eraseByte m a) a b) a = b := by
  induction m with
  | nil => simp [eraseByte, insertByte, readByte]
  | cons e t ih =>
    obtain ⟨k, v⟩ := e
    by_cases h : k = a
    · simp [eraseByte, h, ih]
    · by_cases h' : a < k <;> simp [eraseByte, insertByte, readByte, h, h', ih]

/-- A read after a write to the same offset gives the value written. -/
@[simp] theorem readByte_writeByte_same (m : Memory) (a : Nat) (b : Byte) : readByte (writeByte m a b) a = b := by
  unfold writeByte
  split
  · next h => rw [readByte_eraseByte_same, h]
  · exact readByte_insertByte_erased m a b

/-- A write leaves every other offset alone. -/
theorem readByte_writeByte_other (m : Memory) {a x : Nat} (b : Byte) (hx : x ≠ a) :
    readByte (writeByte m a b) x = readByte m x := by
  unfold writeByte
  split
  · exact readByte_eraseByte_other m hx
  · rw [readByte_insertByte_other _ b hx, readByte_eraseByte_other m hx]

theorem wfFrom_mono {lo lo' : Nat} {m : Memory} (h : wfFrom lo' m = true) (hl : lo ≤ lo') : wfFrom lo m = true := by
  cases m with
  | nil => rfl
  | cons e t =>
    obtain ⟨k, v⟩ := e
    simp only [wfFrom, Bool.and_eq_true, decide_eq_true_eq] at h ⊢
    exact ⟨⟨⟨by omega, h.1.1.2⟩, h.1.2⟩, h.2⟩

theorem wfFrom_eraseByte {lo : Nat} {m : Memory} (a : Nat) (h : wfFrom lo m = true) :
    wfFrom lo (eraseByte m a) = true := by
  induction m generalizing lo with
  | nil => rfl
  | cons e t ih =>
    obtain ⟨k, v⟩ := e
    simp only [wfFrom, Bool.and_eq_true, decide_eq_true_eq] at h
    by_cases hk : k = a
    · simp only [eraseByte, hk, ↓reduceIte]
      exact wfFrom_mono (ih h.2) (by omega)
    · simp only [eraseByte, hk, ↓reduceIte, wfFrom, Bool.and_eq_true, decide_eq_true_eq]
      exact ⟨h.1, ih h.2⟩

/-- No entry for `a` is left after erasing it. -/
theorem not_mem_eraseByte (m : Memory) (a : Nat) : ∀ e ∈ eraseByte m a, e.1 ≠ a := by
  induction m with
  | nil => simp [eraseByte]
  | cons e t ih =>
    obtain ⟨k, v⟩ := e
    by_cases hk : k = a <;> simp [eraseByte, hk]
    · exact fun x y hxy => ih (x, y) hxy
    · exact fun x y hxy => ih (x, y) hxy

theorem wfFrom_insertByte {lo : Nat} {m : Memory} {a : Nat} {b : Byte} (h : wfFrom lo m = true) (hlo : lo ≤ a)
    (ha : a < 256) (hb : b ≠ unlistedByte) (hm : ∀ e ∈ m, e.1 ≠ a) : wfFrom lo (insertByte m a b) = true := by
  induction m generalizing lo with
  | nil => simp [insertByte, wfFrom, hlo, ha, hb]
  | cons e t ih =>
    obtain ⟨k, v⟩ := e
    simp only [wfFrom, Bool.and_eq_true, decide_eq_true_eq] at h
    have hka : k ≠ a := hm (k, v) (by simp)
    by_cases hk : a < k
    · simp only [insertByte, hk, ↓reduceIte, wfFrom, Bool.and_eq_true, decide_eq_true_eq]
      exact ⟨⟨⟨hlo, ha⟩, hb⟩, ⟨⟨by omega, h.1.1.2⟩, h.1.2⟩, h.2⟩
    · simp only [insertByte, hk, ↓reduceIte, wfFrom, Bool.and_eq_true, decide_eq_true_eq]
      exact ⟨h.1, ih h.2 (by omega) fun e he => hm e (by simp [he])⟩

/-- A write inside the register space keeps the canonical form. -/
theorem writeByte_wf {m : Memory} {a : Nat} (b : Byte) (h : Memory.wf m = true) (ha : a < 256) :
    Memory.wf (writeByte m a b) = true := by
  unfold writeByte Memory.wf
  split
  · exact wfFrom_eraseByte a h
  · next hb => exact wfFrom_insertByte (wfFrom_eraseByte a h) (Nat.zero_le a) ha hb (not_mem_eraseByte m a)

theorem writeWord_wf {m : Memory} (off : Byte) (w : Word16) (h : Memory.wf m = true) :
    Memory.wf (writeWord m off w) = true :=
  writeByte_wf _ (writeByte_wf _ h off.isLt) (off + 1).isLt

/-- A register word stored at `off` changes only the bytes at `off` and `off + 1`. -/
theorem readByte_writeWord_other (m : Memory) (off : Byte) (w : Word16) {a : Nat} (h0 : a ≠ off.toNat)
    (h1 : a ≠ (off + 1).toNat) : readByte (writeWord m off w) a = readByte m a := by
  rw [writeWord, readByte_writeByte_other _ _ h1, readByte_writeByte_other _ _ h0]

theorem offset_ne_succ (off : Byte) : off.toNat ≠ (off + 1).toNat := by
  intro h
  have : off = off + 1 := BitVec.eq_of_toNat_eq h
  revert this
  bv_omega

/-- A register word reads back as it was stored (20_memory.md R56, R57). -/
@[simp] theorem readWord_writeWord (m : Memory) (off : Byte) (w : Word16) : readWord (writeWord m off w) off = w := by
  have h0 : readByte (writeWord m off w) off.toNat = hiByte w := by
    rw [writeWord, readByte_writeByte_other _ _ (offset_ne_succ off), readByte_writeByte_same]
  have h1 : readByte (writeWord m off w) (off + 1).toNat = loByte w := by
    rw [writeWord, readByte_writeByte_same]
  rw [readWord, h0, h1, wordOf, hiByte, loByte]
  ext i hi
  simp only [BitVec.getElem_append, BitVec.getElem_extractLsb']
  split
  · simp [BitVec.getLsbD_eq_getElem hi]
  · simp only [show 8 + (i - 8) = i by omega, BitVec.getLsbD_eq_getElem hi]

/-- The register image keeps its form through a completed transaction. -/
theorem imageAfter_wf {m : Memory} (op : BusOp) (h : Memory.wf m = true) : Memory.wf (imageAfter m op) = true := by
  cases op with
  | bitRead off i => exact h
  | bitWrite off i b => exact writeByte_wf _ h off.isLt
  | memRead off => exact h
  | memWrite off w => exact writeWord_wf off w h

theorem imageLeft_wf {m : Memory} (op : BusOp) (left : Option Word16) (h : Memory.wf m = true) :
    Memory.wf (imageLeft m op left) = true := by
  cases left with
  | none => exact h
  | some w =>
    cases op with
    | bitRead off i => exact h
    | bitWrite off i b => exact imageAfter_wf (.bitWrite off i (w.getLsbD 0)) h
    | memRead off => exact h
    | memWrite off w' => exact imageAfter_wf (.memWrite off w) h

/-- The register image keeps its form through every transaction, however it ends. -/
theorem chipAfter_wf {m : Memory} (op : BusOp) (a : BusAnswer) (h : Memory.wf m = true) :
    Memory.wf (chipAfter m op a) = true := by
  cases a with
  | memory => exact imageAfter_wf op h
  | value w => exact imageAfter_wf op h
  | fail left => exact imageLeft_wf op left h
  | pending left => exact imageLeft_wf op left h

theorem readByte_imageAfter (m : Memory) (op : BusOp) {a : Nat} (h : a ∉ op.mayWrite) :
    readByte (imageAfter m op) a = readByte m a := by
  cases op with
  | bitRead off i => rfl
  | bitWrite off i b => exact readByte_writeByte_other _ _ (by simpa [BusOp.mayWrite] using h)
  | memRead off => rfl
  | memWrite off w =>
    simp only [BusOp.mayWrite, List.mem_cons, List.not_mem_nil, or_false, not_or] at h
    exact readByte_writeWord_other m off w h.1 h.2

/-- A transaction changes no byte but those its primitive writes, however it ends. -/
theorem readByte_chipAfter (m : Memory) (op : BusOp) (ans : BusAnswer) {a : Nat} (h : a ∉ op.mayWrite) :
    readByte (chipAfter m op ans) a = readByte m a := by
  have left (l : Option Word16) : readByte (imageLeft m op l) a = readByte m a := by
    cases l with
    | none => rfl
    | some w =>
      cases op with
      | bitRead off i => rfl
      | bitWrite off i b => exact readByte_imageAfter m (.bitWrite off i _) h
      | memRead off => rfl
      | memWrite off w' => exact readByte_imageAfter m (.memWrite off _) h
  cases ans with
  | memory => exact readByte_imageAfter m op h
  | value w => exact readByte_imageAfter m op h
  | fail l => exact left l
  | pending l => exact left l

/-- A read changes no register, however it ends. -/
theorem chipAfter_bitRead (m : Memory) (off : Byte) (i : Fin 8) (a : BusAnswer) :
    chipAfter m (.bitRead off i) a = m := by
  cases a with
  | memory => rfl
  | value w => rfl
  | fail l => cases l <;> rfl
  | pending l => cases l <;> rfl

theorem chipAfter_memRead (m : Memory) (off : Byte) (a : BusAnswer) : chipAfter m (.memRead off) a = m := by
  cases a with
  | memory => rfl
  | value w => rfl
  | fail l => cases l <;> rfl
  | pending l => cases l <;> rfl

/-- Bit `i` of a byte after it is replaced, and every other bit. -/
theorem getLsbD_setBit (v : Byte) (i : Fin 8) (b : Bool) (j : Fin 8) :
    (setBit v i b).getLsbD j = if j = i then b else v.getLsbD j := by
  revert v i b j; decide +kernel

end Sys2Proof.Machine
end

