-- ==== Sys2Proof/Laws/State.lean ====
section
/-! SUPPORT. One lemma per field per update of the state, true by rfl, so that no later proof unfolds a record update. -/

namespace Sys2Proof.Machine

/-! State.accept -/

@[simp] theorem State.accept_params (s : State) : (s.accept).params = s.params := rfl
@[simp] theorem State.accept_ppr (s : State) : (s.accept).ppr = s.ppr := rfl
@[simp] theorem State.accept_ppm3 (s : State) : (s.accept).ppm3 = s.ppm3 := rfl
@[simp] theorem State.accept_atEn (s : State) : (s.accept).atEn = s.atEn := rfl
@[simp] theorem State.accept_phase (s : State) : (s.accept).phase = s.phase := rfl
@[simp] theorem State.accept_rst (s : State) : (s.accept).rst = s.rst := rfl
@[simp] theorem State.accept_reqValid (s : State) : (s.accept).reqValid = false := rfl
@[simp] theorem State.accept_req (s : State) : (s.accept).req = s.req := rfl
@[simp] theorem State.accept_trace (s : State) : (s.accept).trace = [] := rfl
@[simp] theorem State.accept_chip (s : State) : (s.accept).chip = s.chip := rfl
@[simp] theorem State.accept_env (s : State) : (s.accept).env = s.env := rfl
@[simp] theorem State.accept_host (s : State) : (s.accept).host = s.host := rfl

/-! State.respond -/

@[simp] theorem State.respond_params (s : State) (r : Result) : (s.respond r).params = s.params := rfl
@[simp] theorem State.respond_ppr (s : State) (r : Result) : (s.respond r).ppr = s.ppr := rfl
@[simp] theorem State.respond_ppm3 (s : State) (r : Result) : (s.respond r).ppm3 = s.ppm3 := rfl
@[simp] theorem State.respond_atEn (s : State) (r : Result) : (s.respond r).atEn = s.atEn := rfl
@[simp] theorem State.respond_phase (s : State) (r : Result) : (s.respond r).phase = .responding r := rfl
@[simp] theorem State.respond_rst (s : State) (r : Result) : (s.respond r).rst = s.rst := rfl
@[simp] theorem State.respond_reqValid (s : State) (r : Result) : (s.respond r).reqValid = s.reqValid := rfl
@[simp] theorem State.respond_req (s : State) (r : Result) : (s.respond r).req = s.req := rfl
@[simp] theorem State.respond_trace (s : State) (r : Result) : (s.respond r).trace = s.trace := rfl
@[simp] theorem State.respond_chip (s : State) (r : Result) : (s.respond r).chip = s.chip := rfl
@[simp] theorem State.respond_env (s : State) (r : Result) : (s.respond r).env = s.env := rfl
@[simp] theorem State.respond_host (s : State) (r : Result) : (s.respond r).host = s.host := rfl

/-! State.ok -/

@[simp] theorem State.ok_params (s : State) (v : Rat) : (s.ok v).params = s.params := rfl
@[simp] theorem State.ok_ppr (s : State) (v : Rat) : (s.ok v).ppr = s.ppr := rfl
@[simp] theorem State.ok_ppm3 (s : State) (v : Rat) : (s.ok v).ppm3 = s.ppm3 := rfl
@[simp] theorem State.ok_atEn (s : State) (v : Rat) : (s.ok v).atEn = s.atEn := rfl
@[simp] theorem State.ok_phase (s : State) (v : Rat) : (s.ok v).phase = .responding (.ok v) := rfl
@[simp] theorem State.ok_rst (s : State) (v : Rat) : (s.ok v).rst = s.rst := rfl
@[simp] theorem State.ok_reqValid (s : State) (v : Rat) : (s.ok v).reqValid = s.reqValid := rfl
@[simp] theorem State.ok_req (s : State) (v : Rat) : (s.ok v).req = s.req := rfl
@[simp] theorem State.ok_trace (s : State) (v : Rat) : (s.ok v).trace = s.trace := rfl
@[simp] theorem State.ok_chip (s : State) (v : Rat) : (s.ok v).chip = s.chip := rfl
@[simp] theorem State.ok_env (s : State) (v : Rat) : (s.ok v).env = s.env := rfl
@[simp] theorem State.ok_host (s : State) (v : Rat) : (s.ok v).host = s.host := rfl

/-! State.raise -/

@[simp] theorem State.raise_params (s : State) (st : Status) : (s.raise st).params = s.params := rfl
@[simp] theorem State.raise_ppr (s : State) (st : Status) : (s.raise st).ppr = s.ppr := rfl
@[simp] theorem State.raise_ppm3 (s : State) (st : Status) : (s.raise st).ppm3 = s.ppm3 := rfl
@[simp] theorem State.raise_atEn (s : State) (st : Status) : (s.raise st).atEn = s.atEn := rfl
@[simp] theorem State.raise_phase (s : State) (st : Status) : (s.raise st).phase = .responding (.error st) := rfl
@[simp] theorem State.raise_rst (s : State) (st : Status) : (s.raise st).rst = s.rst := rfl
@[simp] theorem State.raise_reqValid (s : State) (st : Status) : (s.raise st).reqValid = s.reqValid := rfl
@[simp] theorem State.raise_req (s : State) (st : Status) : (s.raise st).req = s.req := rfl
@[simp] theorem State.raise_trace (s : State) (st : Status) : (s.raise st).trace = s.trace := rfl
@[simp] theorem State.raise_chip (s : State) (st : Status) : (s.raise st).chip = s.chip := rfl
@[simp] theorem State.raise_env (s : State) (st : Status) : (s.raise st).env = s.env := rfl
@[simp] theorem State.raise_host (s : State) (st : Status) : (s.raise st).host = s.host := rfl

/-! State.hang -/

@[simp] theorem State.hang_params (s : State) : (s.hang).params = s.params := rfl
@[simp] theorem State.hang_ppr (s : State) : (s.hang).ppr = s.ppr := rfl
@[simp] theorem State.hang_ppm3 (s : State) : (s.hang).ppm3 = s.ppm3 := rfl
@[simp] theorem State.hang_atEn (s : State) : (s.hang).atEn = s.atEn := rfl
@[simp] theorem State.hang_phase (s : State) : (s.hang).phase = .busy := rfl
@[simp] theorem State.hang_rst (s : State) : (s.hang).rst = s.rst := rfl
@[simp] theorem State.hang_reqValid (s : State) : (s.hang).reqValid = s.reqValid := rfl
@[simp] theorem State.hang_req (s : State) : (s.hang).req = s.req := rfl
@[simp] theorem State.hang_trace (s : State) : (s.hang).trace = s.trace := rfl
@[simp] theorem State.hang_chip (s : State) : (s.hang).chip = s.chip := rfl
@[simp] theorem State.hang_env (s : State) : (s.hang).env = s.env := rfl
@[simp] theorem State.hang_host (s : State) : (s.hang).host = s.host := rfl

/-! State.offer -/

@[simp] theorem State.offer_params (s : State) (r : Request) : (s.offer r).params = s.params := rfl
@[simp] theorem State.offer_ppr (s : State) (r : Request) : (s.offer r).ppr = s.ppr := rfl
@[simp] theorem State.offer_ppm3 (s : State) (r : Request) : (s.offer r).ppm3 = s.ppm3 := rfl
@[simp] theorem State.offer_atEn (s : State) (r : Request) : (s.offer r).atEn = s.atEn := rfl
@[simp] theorem State.offer_phase (s : State) (r : Request) : (s.offer r).phase = s.phase := rfl
@[simp] theorem State.offer_rst (s : State) (r : Request) : (s.offer r).rst = s.rst := rfl
@[simp] theorem State.offer_reqValid (s : State) (r : Request) : (s.offer r).reqValid = true := rfl
@[simp] theorem State.offer_req (s : State) (r : Request) : (s.offer r).req = r := rfl
@[simp] theorem State.offer_trace (s : State) (r : Request) : (s.offer r).trace = s.trace := rfl
@[simp] theorem State.offer_chip (s : State) (r : Request) : (s.offer r).chip = s.chip := rfl
@[simp] theorem State.offer_env (s : State) (r : Request) : (s.offer r).env = s.env := rfl
@[simp] theorem State.offer_host (s : State) (r : Request) : (s.offer r).host = s.host := rfl

/-! State.resetEdge -/

@[simp] theorem State.resetEdge_params (s : State) : (s.resetEdge).params = s.params := rfl
@[simp] theorem State.resetEdge_ppr (s : State) : (s.resetEdge).ppr = PerChannel.all pprDefault := rfl
@[simp] theorem State.resetEdge_ppm3 (s : State) : (s.resetEdge).ppm3 = PerChannel.all ppm3Default := rfl
@[simp] theorem State.resetEdge_atEn (s : State) : (s.resetEdge).atEn = PerChannel.all false := rfl
@[simp] theorem State.resetEdge_phase (s : State) : (s.resetEdge).phase = .idle := rfl
@[simp] theorem State.resetEdge_rst (s : State) : (s.resetEdge).rst = false := rfl
@[simp] theorem State.resetEdge_reqValid (s : State) : (s.resetEdge).reqValid = s.reqValid := rfl
@[simp] theorem State.resetEdge_req (s : State) : (s.resetEdge).req = s.req := rfl
@[simp] theorem State.resetEdge_trace (s : State) : (s.resetEdge).trace = [] := rfl
@[simp] theorem State.resetEdge_chip (s : State) : (s.resetEdge).chip = s.chip := rfl
@[simp] theorem State.resetEdge_env (s : State) : (s.resetEdge).env = s.env := rfl
@[simp] theorem State.resetEdge_host (s : State) : (s.resetEdge).host = hostAtReset s := rfl

/-! State.withFetchWord -/

@[simp] theorem State.withFetchWord_params (s : State) (n w : Nat) : (s.withFetchWord n w).params = s.params := rfl
@[simp] theorem State.withFetchWord_ppr (s : State) (n w : Nat) : (s.withFetchWord n w).ppr = s.ppr := rfl
@[simp] theorem State.withFetchWord_ppm3 (s : State) (n w : Nat) : (s.withFetchWord n w).ppm3 = s.ppm3 := rfl
@[simp] theorem State.withFetchWord_atEn (s : State) (n w : Nat) : (s.withFetchWord n w).atEn = s.atEn := rfl
@[simp] theorem State.withFetchWord_phase (s : State) (n w : Nat) : (s.withFetchWord n w).phase = .idle := rfl
@[simp] theorem State.withFetchWord_rst (s : State) (n w : Nat) : (s.withFetchWord n w).rst = false := rfl
@[simp] theorem State.withFetchWord_reqValid (s : State) (n w : Nat) : (s.withFetchWord n w).reqValid = true := rfl
@[simp] theorem State.withFetchWord_req (s : State) (n w : Nat) : (s.withFetchWord n w).req = { s.req with cw := fetchWord n w } := rfl
@[simp] theorem State.withFetchWord_trace (s : State) (n w : Nat) : (s.withFetchWord n w).trace = s.trace := rfl
@[simp] theorem State.withFetchWord_chip (s : State) (n w : Nat) : (s.withFetchWord n w).chip = s.chip := rfl
@[simp] theorem State.withFetchWord_env (s : State) (n w : Nat) : (s.withFetchWord n w).env = s.env := rfl
@[simp] theorem State.withFetchWord_host (s : State) (n w : Nat) : (s.withFetchWord n w).host = s.host := rfl

/-! issue -/

@[simp] theorem issue_params (s : State) (op : BusOp) : ((issue s op).2).params = s.params := rfl
@[simp] theorem issue_ppr (s : State) (op : BusOp) : ((issue s op).2).ppr = s.ppr := rfl
@[simp] theorem issue_ppm3 (s : State) (op : BusOp) : ((issue s op).2).ppm3 = s.ppm3 := rfl
@[simp] theorem issue_atEn (s : State) (op : BusOp) : ((issue s op).2).atEn = s.atEn := rfl
@[simp] theorem issue_phase (s : State) (op : BusOp) : ((issue s op).2).phase = s.phase := rfl
@[simp] theorem issue_rst (s : State) (op : BusOp) : ((issue s op).2).rst = s.rst := rfl
@[simp] theorem issue_reqValid (s : State) (op : BusOp) : ((issue s op).2).reqValid = s.reqValid := rfl
@[simp] theorem issue_req (s : State) (op : BusOp) : ((issue s op).2).req = s.req := rfl
@[simp] theorem issue_trace (s : State) (op : BusOp) : ((issue s op).2).trace = s.trace ++ [⟨s.params.devAddr, op, (issue s op).1⟩] := rfl
@[simp] theorem issue_chip (s : State) (op : BusOp) : ((issue s op).2).chip = chipAfter s.chip op s.env.next.1 := rfl
@[simp] theorem issue_env (s : State) (op : BusOp) : ((issue s op).2).env = s.env.next.2 := rfl
@[simp] theorem issue_host (s : State) (op : BusOp) : ((issue s op).2).host = s.host := rfl

/-- The outcome of an issued transaction is the environment's answer applied to the register image. -/
theorem issue_fst (s : State) (op : BusOp) : (issue s op).1 = outcomeOf s.chip op s.env.next.1 := rfl

/-! Calibration arrays. -/

@[simp] theorem PerChannel.get_all {α : Type} (v : α) (c : Channel) : (PerChannel.all v).get c = v := by
  cases c <;> rfl

@[simp] theorem PerChannel.get_set_same {α : Type} (p : PerChannel α) (c : Channel) (v : α) :
    (p.set c v).get c = v := by
  cases c <;> rfl

theorem PerChannel.get_set_other {α : Type} (p : PerChannel α) {c d : Channel} (v : α) (h : d ≠ c) :
    (p.set c v).get d = p.get d := by
  cases c <;> cases d <;> first | rfl | exact absurd rfl h

/-! Channels. -/

/-- A legal channel id names a channel, and only a legal one does. -/
theorem channelOf_isSome (ch : BitVec 3) : (channelOf ch).isSome = legalChannel ch := by
  revert ch; decide

theorem channelOf_eq_none {ch : BitVec 3} : channelOf ch = none ↔ legalChannel ch = false := by
  revert ch; decide

end Sys2Proof.Machine
end

