-- ==== Sys2Proof/Laws/Commands.lean ====
section
/-! SUPPORT. For each shared operation of a command body, what it can do: once as a case split, once as the result under the hypotheses that let it run to its end. -/

namespace Sys2Proof.Machine

/-! A bus primitive. -/

/-- A primitive succeeds and the body goes on, fails and the command answers TransportError, or never completes and the block stays busy. -/
theorem bus_cases (op : BusOp) (s : State) (k : Word16 → State → State) :
    (∃ w, (issue s op).1 = .done w ∧ bus op s k = k w (issue s op).2) ∨
    ((issue s op).1 = .failed ∧ bus op s k = (issue s op).2.raise .transportError) ∨
    ((issue s op).1 = .pending ∧ bus op s k = (issue s op).2.hang) := by
  rcases h : issue s op with ⟨o, t⟩
  cases o <;> simp [bus, h]

theorem bus_done {op : BusOp} {s : State} {w : Word16} (k : Word16 → State → State)
    (h : (issue s op).1 = .done w) : bus op s k = k w (issue s op).2 := by
  rcases hi : issue s op with ⟨o, t⟩
  rw [hi] at h; cases h
  simp [bus, hi]

/-- What holds after every end of a primitive, if it holds after each. -/
theorem bus_post {P : State → Prop} (op : BusOp) (s : State) (k : Word16 → State → State)
    (hd : ∀ w, (issue s op).1 = .done w → P (k w (issue s op).2))
    (hf : P ((issue s op).2.raise .transportError)) (hp : P (issue s op).2.hang) : P (bus op s k) := by
  rcases bus_cases op s k with ⟨w, hw, e⟩ | ⟨-, e⟩ | ⟨-, e⟩ <;> rw [e]
  · exact hd w hw
  · exact hf
  · exact hp

/-- The outcome of an issued primitive records what the image or the environment gave. -/
theorem issue_trace_length (s : State) (op : BusOp) : (issue s op).2.trace.length = s.trace.length + 1 := by simp

/-! A run of primitives that all succeed. -/

theorem issueAll_nil (s : State) : issueAll s [] = some ([], s) := rfl

/-- The first primitive of a run succeeded, and the rest is a run from the state after it. -/
theorem issueAll_cons {s t : State} {op : BusOp} {ops : List BusOp} {ws : List Word16}
    (h : issueAll s (op :: ops) = some (ws, t)) :
    ∃ w rest, (issue s op).1 = .done w ∧ issueAll (issue s op).2 ops = some (rest, t) ∧ ws = w :: rest := by
  rcases hi : issue s op with ⟨o, u⟩
  cases o with
  | done w =>
    simp only [issueAll, hi] at h
    rcases hr : issueAll u ops with _ | ⟨rest, t'⟩
    · simp [hr] at h
    · simp only [hr, Option.some.injEq, Prod.mk.injEq] at h
      exact ⟨w, rest, rfl, by rw [h.2], h.1.symm⟩
  | failed => simp [issueAll, hi] at h
  | pending => simp [issueAll, hi] at h

/-- A run of primitives changes nothing but the register image, the environment and the recorded transactions. -/
theorem issueAll_frame {s t : State} {ops : List BusOp} {ws : List Word16} (h : issueAll s ops = some (ws, t)) :
    t.params = s.params ∧ t.ppr = s.ppr ∧ t.ppm3 = s.ppm3 ∧ t.atEn = s.atEn ∧ t.phase = s.phase ∧ t.rst = s.rst ∧
    t.reqValid = s.reqValid ∧ t.req = s.req ∧ t.host = s.host := by
  induction ops generalizing s ws with
  | nil =>
    rw [issueAll_nil, Option.some.injEq, Prod.mk.injEq] at h
    rw [← h.2]; simp
  | cons op ops ih =>
    obtain ⟨w, rest, -, hr, -⟩ := issueAll_cons h
    simpa using ih hr

/-! A channel command and a kernel. -/

theorem channelCommand_legal {ch : BitVec 3} {c : Channel} (s : State) (body : Channel → State → State)
    (h : channelOf ch = some c) : channelCommand ch s body = .next (body c s.accept) := by
  simp [channelCommand, h]

theorem channelCommand_illegal {ch : BitVec 3} (s : State) (body : Channel → State → State)
    (h : channelOf ch = none) : channelCommand ch s body = .next (s.accept.raise .invalidChannel) := by
  simp [channelCommand, h]

/-- What a channel command leaves, if the channel error and the body on every channel leave it. -/
theorem channelCommand_post {P : State → Prop} {ch : BitVec 3} {s t : State} {body : Channel → State → State}
    (h : channelCommand ch s body = .next t) (he : P (s.accept.raise .invalidChannel))
    (hb : ∀ c, channelOf ch = some c → P (body c s.accept)) : P t := by
  cases hc : channelOf ch with
  | none =>
    rw [channelCommand_illegal s body hc] at h
    cases h; exact he
  | some c =>
    rw [channelCommand_legal s body hc] at h
    cases h; exact hb c hc

theorem kernelCommand_next (s : State) (f : Params → Request → Result) :
    kernelCommand s f = .next (s.accept.respond (f s.params s.req)) := rfl

/-! The common parts of the GET commands. -/

/-- The byte three bit reads show decodes as the code they spell. -/
theorem decSR_srByte {u : SrUnmatched} {b7 b6 b5 : Word16} {sr : Nat} (h : SrIs u (codeOf b7 b6 b5) sr) :
    decSR u (srByte (b7.getLsbD 0) (b6.getLsbD 0) (b5.getLsbD 0)) = .ok sr := by
  rcases h with ⟨hc, rfl⟩ | ⟨hc, rfl, rfl⟩
  · revert hc; unfold codeOf
    generalize b7.getLsbD 0 = x, b6.getLsbD 0 = y, b5.getLsbD 0 = z
    revert u x y z
    intro u x y z
    cases x <;> cases y <;> cases z <;> simp [decSR, srByte]
  · revert hc; unfold codeOf
    generalize b7.getLsbD 0 = x, b6.getLsbD 0 = y, b5.getLsbD 0 = z
    cases x <;> cases y <;> cases z <;> simp [decSR, srByte]

/-- Every speed range a decoding gives is legal. -/
theorem decSR_legal {u : SrUnmatched} {b : Byte} {sr : Nat} (h : decSR u b = .ok sr) : legalSr sr = true := by
  unfold decSR at h
  generalize (b.extractLsb' 5 3).toNat = n at h
  by_cases hc : n ≤ 5
  · simp only [hc, if_true, Except.ok.injEq] at h
    subst h
    interval_cases n <;> decide
  · cases u
    · simp [hc] at h
    · simp only [hc, if_false, Except.ok.injEq] at h
      subst h; decide

/-- A decoding of a speed range fails in one way. -/
theorem decSR_error {u : SrUnmatched} {b : Byte} {st : Status} (h : decSR u b = .error st) : st = .unrecognizedEncoding := by
  unfold decSR at h
  generalize (b.extractLsb' 5 3).toNat = n at h
  by_cases hc : n ≤ 5
  · simp [hc] at h
  · cases u
    · simp only [hc, if_false, Except.error.injEq] at h; exact h.symm
    · simp [hc] at h

/-- ReadSR after three bit reads that succeed. -/
theorem readSR_of_issueAll {c : Channel} {s t : State} {b7 b6 b5 : Word16} (k : Nat → State → State)
    (h : issueAll s (srReads c) = some ([b7, b6, b5], t)) :
    readSR c s k =
      match decSR s.params.srUnmatched (srByte (b7.getLsbD 0) (b6.getLsbD 0) (b5.getLsbD 0)) with
      | .ok sr => k sr t
      | .error st => t.raise st := by
  obtain ⟨w1, r1, h1, h, e1⟩ := issueAll_cons h
  obtain ⟨w2, r2, h2, h, e2⟩ := issueAll_cons h
  obtain ⟨w3, r3, h3, h, e3⟩ := issueAll_cons h
  rw [issueAll_nil, Option.some.injEq, Prod.mk.injEq] at h
  obtain ⟨rfl, rfl⟩ := h
  subst e3; subst e2
  simp only [List.cons.injEq, and_true] at e1
  obtain ⟨rfl, rfl, rfl⟩ := e1
  simp only [readSR, bitRead]
  rw [bus_done _ h1, bus_done _ h2, bus_done _ h3]
  rfl

/-- ReadSR on every path: what its transactions keep holds at each of its ends. -/
theorem readSR_post {Q P : State → Prop} (c : Channel) (s : State) (k : Nat → State → State) (hs : Q s)
    (hq : ∀ u op, op ∈ srReads c → Q u → Q (issue u op).2)
    (hr : ∀ u st, Q u → (st = .transportError ∨ st = .unrecognizedEncoding) → P (u.raise st))
    (hh : ∀ u, Q u → P u.hang) (hk : ∀ u sr, Q u → legalSr sr = true → P (k sr u)) : P (readSR c s k) := by
  have h7 : BusOp.bitRead (offDyn c) 7 ∈ srReads c := by simp [srReads]
  have h6 : BusOp.bitRead (offDyn c) 6 ∈ srReads c := by simp [srReads]
  have h5 : BusOp.bitRead (offDyn c) 5 ∈ srReads c := by simp [srReads]
  unfold readSR bitRead
  have q1 := hq _ _ h7 hs
  refine bus_post _ _ _ (fun w1 _ => ?_) (hr _ _ q1 (.inl rfl)) (hh _ q1)
  have q2 := hq _ _ h6 q1
  refine bus_post _ _ _ (fun w2 _ => ?_) (hr _ _ q2 (.inl rfl)) (hh _ q2)
  have q3 := hq _ _ h5 q2
  refine bus_post _ _ _ (fun w3 _ => ?_) (hr _ _ q3 (.inl rfl)) (hh _ q3)
  beta_reduce
  split
  · next sr h => exact hk _ _ q3 (decSR_legal h)
  · next st h => exact hr _ _ q3 (.inr (decSR_error h))

/-- A conversion answers OK or NoSignal. -/
theorem conv_cases (tag : RateTag) (count : BitVec 11) (sr ppr ppm3 : Nat) :
    ((count.toNat = 0 ∨ count.toNat = tachSat) ∧ conv tag count sr ppr ppm3 = .error .noSignal) ∨
    (count.toNat ≠ 0 ∧ count.toNat ≠ tachSat ∧
      conv tag count sr ppr ppm3 = .ok (rateValue tag (((sr * kclk : Nat) : Rat) / (count.toNat : Rat)) ppr ppm3)) := by
  by_cases h : count.toNat = 0 ∨ count.toNat = tachSat
  · exact .inl ⟨h, by simp [conv, pps, h]⟩
  · refine .inr ⟨fun e => h (.inl e), fun e => h (.inr e), by simp [conv, pps, h]⟩

/-- An encoding step raises its status or hands its value on. -/
theorem withEncoded_cases {α : Type} (e : Except Status α) (s : State) (k : α → State) :
    (∃ v, e = .ok v ∧ withEncoded e s k = k v) ∨ (∃ st, e = .error st ∧ withEncoded e s k = s.raise st) := by
  cases e with
  | ok v => exact .inl ⟨v, rfl, rfl⟩
  | error st => exact .inr ⟨st, rfl, rfl⟩

/-- The environment answers from its script first, and from the register image for ever in MEMBUS mode. -/
theorem env_next_cons (a : BusAnswer) (rest : List BusAnswer) (m : EnvMode) (n : Nat) :
    Env.next ⟨a :: rest, m, n⟩ = (a, ⟨rest, m, n⟩) := rfl

theorem env_next_membus (n : Nat) : Env.next ⟨[], .membus, n⟩ = (.memory, ⟨[], .membus, n⟩) := rfl

/-! The bodies of the rate gets and of the target get after transactions that succeed. -/

/-- A channel field one above the index of a channel names it. -/
theorem channelOf_of_index {ch : BitVec 3} {c : Channel} (h : ch.toNat = c.index + 1) : channelOf ch = some c := by
  cases c <;> simp [Channel.index] at h <;> revert ch <;> decide

theorem toNat_decTach (w : Word16) : (decTach w).toNat = w.toNat / 32 := by
  simp [decTach, Nat.shiftRight_eq_div_pow]; omega

theorem toNat_decDuty (w : Word16) : (decDuty w).toNat = w.toNat / 128 := by
  simp [decDuty, Nat.shiftRight_eq_div_pow]; omega

/-- The gallon in lowest terms (00_scope.md R7). -/
theorem gal_eq : gal = 473176473 / 125000000000 := by norm_num [gal]

/-- RateGet on a channel with a signal, after its four transactions. -/
theorem rateGet_of_issueAll {tag : RateTag} {s s1 : State} {c : Channel} {wt b7 b6 b5 : Word16} {sr : Nat}
    (h : issueAll s (rateReads c) = some ([wt, b7, b6, b5], s1)) (h0 : wt.toNat / 32 ≠ 0) (h1 : wt.toNat / 32 ≠ 2047)
    (hs : SrIs s.params.srUnmatched (codeOf b7 b6 b5) sr) :
    rateGet tag c s =
      s1.respond (.ok (rateValue tag (((sr * kclk : Nat) : Rat) / ((wt.toNat / 32 : Nat) : Rat)) (s.ppr.get c).toNat (s.ppm3.get c).toNat)) := by
  obtain ⟨w1, r1, hd, h, e1⟩ := issueAll_cons h
  simp only [List.cons.injEq] at e1
  obtain ⟨rfl, rfl⟩ := e1
  have hfr := issueAll_frame h
  have hn : ¬ ((decTach wt).toNat = 0 ∨ (decTach wt).toNat = tachSat) := by simp [toNat_decTach, tachSat, h0, h1]
  have hdec := decSR_srByte hs
  unfold rateGet readTach memRead
  rw [bus_done _ hd]
  simp only [hn, if_false]
  rw [readSR_of_issueAll _ h]
  simp only [issue_params, hdec]
  have e1 : pprOf s1 c = (s.ppr.get c).toNat := by simp [pprOf, hfr.2.1]
  have e2 : ppm3Of s1 c = (s.ppm3.get c).toNat := by simp [ppm3Of, hfr.2.2.1]
  rcases conv_cases tag (decTach wt) sr (pprOf s1 c) (ppm3Of s1 c) with ⟨a, -⟩ | ⟨-, -, hc⟩
  · exact absurd a hn
  · rw [hc, toNat_decTach, e1, e2]

/-- What GET.TGT does with a raw target, by its value. -/
theorem targetGet_cases (c : Channel) (t : BitVec 11) (s : State) :
    (t.toNat = 0 ∧ targetGet c t s = s.raise .noSignal) ∨
    (t.toNat = 2047 ∧ s.params.tgtSentinelDecode = .zero ∧ targetGet c t s = s.ok 0) ∨
    (t.toNat ≠ 0 ∧ (t.toNat = 2047 → s.params.tgtSentinelDecode = .identity) ∧
      targetGet c t s = readSR c s fun sr u => u.respond (tgtDec u.params.tgtSentinelDecode t sr (pprOf u c))) := by
  by_cases h0 : t.toNat = 0
  · exact .inl ⟨h0, by simp [targetGet, h0]⟩
  · by_cases h1 : t.toNat = tachSat ∧ s.params.tgtSentinelDecode = .zero
    · exact .inr (.inl ⟨h1.1, h1.2, by rw [targetGet, if_neg h0, if_pos h1]⟩)
    · refine .inr (.inr ⟨h0, fun e => ?_, by simp only [targetGet, h0, h1, if_false]⟩)
      cases hd : s.params.tgtSentinelDecode with
      | zero => exact absurd ⟨e, hd⟩ h1
      | identity => rfl

end Sys2Proof.Machine
end

