-- ==== Sys2Proof/Laws/PerInstr.lean ====
section
/-! SUPPORT. One lemma per command: its encoding carries the row of spec/opcode_table.json, under the row's mask. -/

namespace Sys2Proof

/-- The mask and the match of a command's row in the opcode table. -/
def Laws.TableRow.row : Instr → Word16 × Word16
  | .getPwm _ => (0xFFF8, 0x0000)
  | .getSpd _ => (0xFFF8, 0x0100)
  | .getSr _ => (0xFFF8, 0x0200)
  | .getPpr _ => (0xFFF8, 0x0300)
  | .getPpm3 _ => (0xFFF8, 0x0400)
  | .getPpl _ => (0xFFF8, 0x0500)
  | .getPpg _ => (0xFFF8, 0x0600)
  | .getTac _ => (0xFFF8, 0x0700)
  | .getPps _ => (0xFFF8, 0x0800)
  | .getPpm _ => (0xFFF8, 0x0900)
  | .getPph _ => (0xFFF8, 0x0A00)
  | .getRps _ => (0xFFF8, 0x0B00)
  | .getRpm _ => (0xFFF8, 0x0C00)
  | .getRph _ => (0xFFF8, 0x0D00)
  | .getM3ps _ => (0xFFF8, 0x0E00)
  | .getM3pm _ => (0xFFF8, 0x0F00)
  | .getM3ph _ => (0xFFF8, 0x1000)
  | .getLps _ => (0xFFF8, 0x1100)
  | .getLpm _ => (0xFFF8, 0x1200)
  | .getLph _ => (0xFFF8, 0x1300)
  | .getGps _ => (0xFFF8, 0x1400)
  | .getGpm _ => (0xFFF8, 0x1500)
  | .getGph _ => (0xFFF8, 0x1600)
  | .getMode _ => (0xFFF8, 0x2000)
  | .getTgt _ => (0xFFF8, 0x2100)
  | .getAt _ => (0xFFF8, 0x2200)
  | .setPwm _ => (0xFFF8, 0x4000)
  | .setSr _ => (0xFFF8, 0x4200)
  | .setPpr _ => (0xFFF8, 0x4300)
  | .setPpm3 _ => (0xFFF8, 0x4400)
  | .setMode _ => (0xFFF8, 0x6000)
  | .setTgt _ => (0xFFF8, 0x6100)
  | .setAt _ => (0xFFF8, 0x6200)
  | .kconvSpd => (0xFFFF, 0x8100)
  | .kconvPpl => (0xFFFF, 0x8500)
  | .kconvPpg => (0xFFFF, 0x8600)
  | .kconvPps => (0xFFFF, 0x8800)
  | .kconvPpm => (0xFFFF, 0x8900)
  | .kconvPph => (0xFFFF, 0x8A00)
  | .kconvRps => (0xFFFF, 0x8B00)
  | .kconvRpm => (0xFFFF, 0x8C00)
  | .kconvRph => (0xFFFF, 0x8D00)
  | .kconvM3ps => (0xFFFF, 0x8E00)
  | .kconvM3pm => (0xFFFF, 0x8F00)
  | .kconvM3ph => (0xFFFF, 0x9000)
  | .kconvLps => (0xFFFF, 0x9100)
  | .kconvLpm => (0xFFFF, 0x9200)
  | .kconvLph => (0xFFFF, 0x9300)
  | .kconvGps => (0xFFFF, 0x9400)
  | .kconvGpm => (0xFFFF, 0x9500)
  | .kconvGph => (0xFFFF, 0x9600)
  | .kdecMode => (0xFFFF, 0xA000)
  | .kdecSr => (0xFFFF, 0xA100)
  | .kdecDuty => (0xFFFF, 0xA200)
  | .kdecTach => (0xFFFF, 0xA300)
  | .kencSr => (0xFFFF, 0xA400)
  | .kencDuty => (0xFFFF, 0xA500)
  | .kencTach => (0xFFFF, 0xA600)
  | .ktgtEnc => (0xFFFF, 0xA700)
  | .ktgtDec => (0xFFFF, 0xA800)

/-- The encoding of the command, under the mask of its row, is the row's match. -/
def Laws.TableRow.Statement (i : Instr) : Prop := encode i &&& (Laws.TableRow.row i).1 = (Laws.TableRow.row i).2

theorem Laws.TableRow.getPwm (ch : BitVec 3) : Laws.TableRow.Statement (.getPwm ch) := by
  unfold Laws.TableRow.Statement; revert ch; decide

theorem Laws.TableRow.getSpd (ch : BitVec 3) : Laws.TableRow.Statement (.getSpd ch) := by
  unfold Laws.TableRow.Statement; revert ch; decide

theorem Laws.TableRow.getSr (ch : BitVec 3) : Laws.TableRow.Statement (.getSr ch) := by
  unfold Laws.TableRow.Statement; revert ch; decide

theorem Laws.TableRow.getPpr (ch : BitVec 3) : Laws.TableRow.Statement (.getPpr ch) := by
  unfold Laws.TableRow.Statement; revert ch; decide

theorem Laws.TableRow.getPpm3 (ch : BitVec 3) : Laws.TableRow.Statement (.getPpm3 ch) := by
  unfold Laws.TableRow.Statement; revert ch; decide

theorem Laws.TableRow.getPpl (ch : BitVec 3) : Laws.TableRow.Statement (.getPpl ch) := by
  unfold Laws.TableRow.Statement; revert ch; decide

theorem Laws.TableRow.getPpg (ch : BitVec 3) : Laws.TableRow.Statement (.getPpg ch) := by
  unfold Laws.TableRow.Statement; revert ch; decide

theorem Laws.TableRow.getTac (ch : BitVec 3) : Laws.TableRow.Statement (.getTac ch) := by
  unfold Laws.TableRow.Statement; revert ch; decide

theorem Laws.TableRow.getPps (ch : BitVec 3) : Laws.TableRow.Statement (.getPps ch) := by
  unfold Laws.TableRow.Statement; revert ch; decide

theorem Laws.TableRow.getPpm (ch : BitVec 3) : Laws.TableRow.Statement (.getPpm ch) := by
  unfold Laws.TableRow.Statement; revert ch; decide

theorem Laws.TableRow.getPph (ch : BitVec 3) : Laws.TableRow.Statement (.getPph ch) := by
  unfold Laws.TableRow.Statement; revert ch; decide

theorem Laws.TableRow.getRps (ch : BitVec 3) : Laws.TableRow.Statement (.getRps ch) := by
  unfold Laws.TableRow.Statement; revert ch; decide

theorem Laws.TableRow.getRpm (ch : BitVec 3) : Laws.TableRow.Statement (.getRpm ch) := by
  unfold Laws.TableRow.Statement; revert ch; decide

theorem Laws.TableRow.getRph (ch : BitVec 3) : Laws.TableRow.Statement (.getRph ch) := by
  unfold Laws.TableRow.Statement; revert ch; decide

theorem Laws.TableRow.getM3ps (ch : BitVec 3) : Laws.TableRow.Statement (.getM3ps ch) := by
  unfold Laws.TableRow.Statement; revert ch; decide

theorem Laws.TableRow.getM3pm (ch : BitVec 3) : Laws.TableRow.Statement (.getM3pm ch) := by
  unfold Laws.TableRow.Statement; revert ch; decide

theorem Laws.TableRow.getM3ph (ch : BitVec 3) : Laws.TableRow.Statement (.getM3ph ch) := by
  unfold Laws.TableRow.Statement; revert ch; decide

theorem Laws.TableRow.getLps (ch : BitVec 3) : Laws.TableRow.Statement (.getLps ch) := by
  unfold Laws.TableRow.Statement; revert ch; decide

theorem Laws.TableRow.getLpm (ch : BitVec 3) : Laws.TableRow.Statement (.getLpm ch) := by
  unfold Laws.TableRow.Statement; revert ch; decide

theorem Laws.TableRow.getLph (ch : BitVec 3) : Laws.TableRow.Statement (.getLph ch) := by
  unfold Laws.TableRow.Statement; revert ch; decide

theorem Laws.TableRow.getGps (ch : BitVec 3) : Laws.TableRow.Statement (.getGps ch) := by
  unfold Laws.TableRow.Statement; revert ch; decide

theorem Laws.TableRow.getGpm (ch : BitVec 3) : Laws.TableRow.Statement (.getGpm ch) := by
  unfold Laws.TableRow.Statement; revert ch; decide

theorem Laws.TableRow.getGph (ch : BitVec 3) : Laws.TableRow.Statement (.getGph ch) := by
  unfold Laws.TableRow.Statement; revert ch; decide

theorem Laws.TableRow.getMode (ch : BitVec 3) : Laws.TableRow.Statement (.getMode ch) := by
  unfold Laws.TableRow.Statement; revert ch; decide

theorem Laws.TableRow.getTgt (ch : BitVec 3) : Laws.TableRow.Statement (.getTgt ch) := by
  unfold Laws.TableRow.Statement; revert ch; decide

theorem Laws.TableRow.getAt (ch : BitVec 3) : Laws.TableRow.Statement (.getAt ch) := by
  unfold Laws.TableRow.Statement; revert ch; decide

theorem Laws.TableRow.setPwm (ch : BitVec 3) : Laws.TableRow.Statement (.setPwm ch) := by
  unfold Laws.TableRow.Statement; revert ch; decide

theorem Laws.TableRow.setSr (ch : BitVec 3) : Laws.TableRow.Statement (.setSr ch) := by
  unfold Laws.TableRow.Statement; revert ch; decide

theorem Laws.TableRow.setPpr (ch : BitVec 3) : Laws.TableRow.Statement (.setPpr ch) := by
  unfold Laws.TableRow.Statement; revert ch; decide

theorem Laws.TableRow.setPpm3 (ch : BitVec 3) : Laws.TableRow.Statement (.setPpm3 ch) := by
  unfold Laws.TableRow.Statement; revert ch; decide

theorem Laws.TableRow.setMode (ch : BitVec 3) : Laws.TableRow.Statement (.setMode ch) := by
  unfold Laws.TableRow.Statement; revert ch; decide

theorem Laws.TableRow.setTgt (ch : BitVec 3) : Laws.TableRow.Statement (.setTgt ch) := by
  unfold Laws.TableRow.Statement; revert ch; decide

theorem Laws.TableRow.setAt (ch : BitVec 3) : Laws.TableRow.Statement (.setAt ch) := by
  unfold Laws.TableRow.Statement; revert ch; decide

theorem Laws.TableRow.kconvSpd : Laws.TableRow.Statement .kconvSpd := by
  unfold Laws.TableRow.Statement; decide

theorem Laws.TableRow.kconvPpl : Laws.TableRow.Statement .kconvPpl := by
  unfold Laws.TableRow.Statement; decide

theorem Laws.TableRow.kconvPpg : Laws.TableRow.Statement .kconvPpg := by
  unfold Laws.TableRow.Statement; decide

theorem Laws.TableRow.kconvPps : Laws.TableRow.Statement .kconvPps := by
  unfold Laws.TableRow.Statement; decide

theorem Laws.TableRow.kconvPpm : Laws.TableRow.Statement .kconvPpm := by
  unfold Laws.TableRow.Statement; decide

theorem Laws.TableRow.kconvPph : Laws.TableRow.Statement .kconvPph := by
  unfold Laws.TableRow.Statement; decide

theorem Laws.TableRow.kconvRps : Laws.TableRow.Statement .kconvRps := by
  unfold Laws.TableRow.Statement; decide

theorem Laws.TableRow.kconvRpm : Laws.TableRow.Statement .kconvRpm := by
  unfold Laws.TableRow.Statement; decide

theorem Laws.TableRow.kconvRph : Laws.TableRow.Statement .kconvRph := by
  unfold Laws.TableRow.Statement; decide

theorem Laws.TableRow.kconvM3ps : Laws.TableRow.Statement .kconvM3ps := by
  unfold Laws.TableRow.Statement; decide

theorem Laws.TableRow.kconvM3pm : Laws.TableRow.Statement .kconvM3pm := by
  unfold Laws.TableRow.Statement; decide

theorem Laws.TableRow.kconvM3ph : Laws.TableRow.Statement .kconvM3ph := by
  unfold Laws.TableRow.Statement; decide

theorem Laws.TableRow.kconvLps : Laws.TableRow.Statement .kconvLps := by
  unfold Laws.TableRow.Statement; decide

theorem Laws.TableRow.kconvLpm : Laws.TableRow.Statement .kconvLpm := by
  unfold Laws.TableRow.Statement; decide

theorem Laws.TableRow.kconvLph : Laws.TableRow.Statement .kconvLph := by
  unfold Laws.TableRow.Statement; decide

theorem Laws.TableRow.kconvGps : Laws.TableRow.Statement .kconvGps := by
  unfold Laws.TableRow.Statement; decide

theorem Laws.TableRow.kconvGpm : Laws.TableRow.Statement .kconvGpm := by
  unfold Laws.TableRow.Statement; decide

theorem Laws.TableRow.kconvGph : Laws.TableRow.Statement .kconvGph := by
  unfold Laws.TableRow.Statement; decide

theorem Laws.TableRow.kdecMode : Laws.TableRow.Statement .kdecMode := by
  unfold Laws.TableRow.Statement; decide

theorem Laws.TableRow.kdecSr : Laws.TableRow.Statement .kdecSr := by
  unfold Laws.TableRow.Statement; decide

theorem Laws.TableRow.kdecDuty : Laws.TableRow.Statement .kdecDuty := by
  unfold Laws.TableRow.Statement; decide

theorem Laws.TableRow.kdecTach : Laws.TableRow.Statement .kdecTach := by
  unfold Laws.TableRow.Statement; decide

theorem Laws.TableRow.kencSr : Laws.TableRow.Statement .kencSr := by
  unfold Laws.TableRow.Statement; decide

theorem Laws.TableRow.kencDuty : Laws.TableRow.Statement .kencDuty := by
  unfold Laws.TableRow.Statement; decide

theorem Laws.TableRow.kencTach : Laws.TableRow.Statement .kencTach := by
  unfold Laws.TableRow.Statement; decide

theorem Laws.TableRow.ktgtEnc : Laws.TableRow.Statement .ktgtEnc := by
  unfold Laws.TableRow.Statement; decide

theorem Laws.TableRow.ktgtDec : Laws.TableRow.Statement .ktgtDec := by
  unfold Laws.TableRow.Statement; decide

end Sys2Proof
end

