-- ==== Sys2Proof/Tests/Slice0.lean ====
section
/-! SUPPORT. Tests and witnesses. Words are written out from 30_encoding.md R80 to R84, results from the examples and corner cases of the rules. A witness shows a concrete
state and operands that meet all hypotheses of a statement of Sys2Proof/Certificates/Slice0/Obligations.lean. -/

namespace Sys2Proof.Tests

set_option Elab.async false

open Sys2Proof Sys2Proof.Machine

/-! Well-formedness: one ill-formed term for each value the check refuses (60_exceptions.md R243). -/

theorem test_wellFormed_refuses_channel_0 : (Instr.getPwm 0).wellFormed = false := by decide
theorem test_wellFormed_refuses_channel_7 : (Instr.setTgt 7).wellFormed = false := by decide
theorem test_wellFormed_accepts : (Instr.getPwm 1).wellFormed = true ∧ (Instr.setAt 6).wellFormed = true ∧ Instr.ktgtEnc.wellFormed = true := by decide

/-! Decoding: one word for each command, class, function code, reserved bits and channel written out bit by bit (R80 to R84). -/

theorem test_decode_getPwm : decode 0b0000000000000001 = .ok (.getPwm 1) := by decide
theorem test_decode_getSpd : decode 0b0000000100000010 = .ok (.getSpd 2) := by decide
theorem test_decode_getSr : decode 0b0000001000000011 = .ok (.getSr 3) := by decide
theorem test_decode_getPpr : decode 0b0000001100000100 = .ok (.getPpr 4) := by decide
theorem test_decode_getPpm3 : decode 0b0000010000000101 = .ok (.getPpm3 5) := by decide
theorem test_decode_getPpl : decode 0b0000010100000110 = .ok (.getPpl 6) := by decide
theorem test_decode_getPpg : decode 0b0000011000000001 = .ok (.getPpg 1) := by decide
theorem test_decode_getTac : decode 0b0000011100000010 = .ok (.getTac 2) := by decide
theorem test_decode_getPps : decode 0b0000100000000011 = .ok (.getPps 3) := by decide
theorem test_decode_getPpm : decode 0b0000100100000100 = .ok (.getPpm 4) := by decide
theorem test_decode_getPph : decode 0b0000101000000101 = .ok (.getPph 5) := by decide
theorem test_decode_getRps : decode 0b0000101100000110 = .ok (.getRps 6) := by decide
theorem test_decode_getRpm : decode 0b0000110000000001 = .ok (.getRpm 1) := by decide
theorem test_decode_getRph : decode 0b0000110100000010 = .ok (.getRph 2) := by decide
theorem test_decode_getM3ps : decode 0b0000111000000011 = .ok (.getM3ps 3) := by decide
theorem test_decode_getM3pm : decode 0b0000111100000100 = .ok (.getM3pm 4) := by decide
theorem test_decode_getM3ph : decode 0b0001000000000101 = .ok (.getM3ph 5) := by decide
theorem test_decode_getLps : decode 0b0001000100000110 = .ok (.getLps 6) := by decide
theorem test_decode_getLpm : decode 0b0001001000000001 = .ok (.getLpm 1) := by decide
theorem test_decode_getLph : decode 0b0001001100000010 = .ok (.getLph 2) := by decide
theorem test_decode_getGps : decode 0b0001010000000011 = .ok (.getGps 3) := by decide
theorem test_decode_getGpm : decode 0b0001010100000100 = .ok (.getGpm 4) := by decide
theorem test_decode_getGph : decode 0b0001011000000101 = .ok (.getGph 5) := by decide
theorem test_decode_getMode : decode 0b0010000000000110 = .ok (.getMode 6) := by decide
theorem test_decode_getTgt : decode 0b0010000100000001 = .ok (.getTgt 1) := by decide
theorem test_decode_getAt : decode 0b0010001000000010 = .ok (.getAt 2) := by decide
theorem test_decode_setPwm : decode 0b0100000000000011 = .ok (.setPwm 3) := by decide
theorem test_decode_setSr : decode 0b0100001000000100 = .ok (.setSr 4) := by decide
theorem test_decode_setPpr : decode 0b0100001100000101 = .ok (.setPpr 5) := by decide
theorem test_decode_setPpm3 : decode 0b0100010000000110 = .ok (.setPpm3 6) := by decide
theorem test_decode_setMode : decode 0b0110000000000001 = .ok (.setMode 1) := by decide
theorem test_decode_setTgt : decode 0b0110000100000010 = .ok (.setTgt 2) := by decide
theorem test_decode_setAt : decode 0b0110001000000011 = .ok (.setAt 3) := by decide
theorem test_decode_kconvSpd : decode 0b1000000100000000 = .ok .kconvSpd := by decide
theorem test_decode_kconvPpl : decode 0b1000010100000000 = .ok .kconvPpl := by decide
theorem test_decode_kconvPpg : decode 0b1000011000000000 = .ok .kconvPpg := by decide
theorem test_decode_kconvPps : decode 0b1000100000000000 = .ok .kconvPps := by decide
theorem test_decode_kconvPpm : decode 0b1000100100000000 = .ok .kconvPpm := by decide
theorem test_decode_kconvPph : decode 0b1000101000000000 = .ok .kconvPph := by decide
theorem test_decode_kconvRps : decode 0b1000101100000000 = .ok .kconvRps := by decide
theorem test_decode_kconvRpm : decode 0b1000110000000000 = .ok .kconvRpm := by decide
theorem test_decode_kconvRph : decode 0b1000110100000000 = .ok .kconvRph := by decide
theorem test_decode_kconvM3ps : decode 0b1000111000000000 = .ok .kconvM3ps := by decide
theorem test_decode_kconvM3pm : decode 0b1000111100000000 = .ok .kconvM3pm := by decide
theorem test_decode_kconvM3ph : decode 0b1001000000000000 = .ok .kconvM3ph := by decide
theorem test_decode_kconvLps : decode 0b1001000100000000 = .ok .kconvLps := by decide
theorem test_decode_kconvLpm : decode 0b1001001000000000 = .ok .kconvLpm := by decide
theorem test_decode_kconvLph : decode 0b1001001100000000 = .ok .kconvLph := by decide
theorem test_decode_kconvGps : decode 0b1001010000000000 = .ok .kconvGps := by decide
theorem test_decode_kconvGpm : decode 0b1001010100000000 = .ok .kconvGpm := by decide
theorem test_decode_kconvGph : decode 0b1001011000000000 = .ok .kconvGph := by decide
theorem test_decode_kdecMode : decode 0b1010000000000000 = .ok .kdecMode := by decide
theorem test_decode_kdecSr : decode 0b1010000100000000 = .ok .kdecSr := by decide
theorem test_decode_kdecDuty : decode 0b1010001000000000 = .ok .kdecDuty := by decide
theorem test_decode_kdecTach : decode 0b1010001100000000 = .ok .kdecTach := by decide
theorem test_decode_kencSr : decode 0b1010010000000000 = .ok .kencSr := by decide
theorem test_decode_kencDuty : decode 0b1010010100000000 = .ok .kencDuty := by decide
theorem test_decode_kencTach : decode 0b1010011000000000 = .ok .kencTach := by decide
theorem test_decode_ktgtEnc : decode 0b1010011100000000 = .ok .ktgtEnc := by decide
theorem test_decode_ktgtDec : decode 0b1010100000000000 = .ok .ktgtDec := by decide

/-! Rejection by name, in the order of R85. -/

theorem test_reject_class_first : decode 0b1100000011111000 = .error .reservedClass := by decide
theorem test_reject_channel_before_reserved : decode 0b0001011111111111 = .error .badChannel := by decide
theorem test_reject_reserved_bits : decode 0b0000000000001001 = .error .reservedBits := by decide
theorem test_reject_kernel_channel : decode 0b1000000000000001 = .error .kernelChannel := by decide
theorem test_reject_read_only_tag : decode 0b0100000100000001 = .error .unrecognizedFn := by decide
theorem test_bad_channel_decodes : decode 0b0000000000000111 = .ok (.getPwm 7) := by decide
theorem test_decodeTableWord : decodeTableWord 16 0x0C03 = some (.getRpm 3) := by decide
theorem test_encode : encode (.getRpm 3) = 0x0C03 ∧ encode (.setSr 1) = 0x4201 ∧ encode .kconvGph = 0x9600 := by decide

/-! Small states. -/

/-- A request with all its operands. -/
def request (wdata : Word32) (kcount : BitVec 11) (ksr : BitVec 6) (kppr kppm3 : Word32) : Request := ⟨0, wdata, kcount, ksr, kppr, kppm3⟩

/-- The machine on MEMBUS with some register bytes and a request. -/
def membus (chip : Memory) (r : Request) : State := { State.reset with chip := chip, env := ⟨[], .membus, 0⟩, req := r }

/-- The same with scripted answers. -/
def scripted (script : List BusAnswer) (chip : Memory) (r : Request) : State := { membus chip r with env := ⟨script, .membus, 0⟩ }

/-- The fixture of 42_get_commands.md: channel 3, SR code 2, count 1024, duty 256, target 1024, mode 1. -/
def fixture : State := membus [(0x04, 0x80), (0x0A, 0x40), (0x1C, 0x80), (0x34, 0x80), (0x54, 0x80)] (request 0 0 0 0 0)

/-- A request that carries only WDATA. -/
def wdata (w : Word32) : Request := request w 0 0 0 0

/-- The state after a command, if it gives one. -/
def after (i : Instr) (s : State) : Option State :=
  match exec i s with
  | .next t => some t
  | .fault _ => none
  | .refused _ => none

/-- The response of a command. -/
def answer (i : Instr) (s : State) : Option Result := (after i s).bind State.response

/-- The byte at an offset after a command. -/
def byteAfter (i : Instr) (s : State) (a : Nat) : Option Byte := (after i s).map fun t => readByte t.chip a

/-- The number of transactions of a command. -/
def transactions (i : Instr) (s : State) : Option Nat := (after i s).map fun t => t.trace.length

/-! GET commands (42_get_commands.md, the example of each rule). -/

theorem test_getPwm : answer (.getPwm 3) fixture = some (.ok (256)) := by decide +kernel
theorem test_getSpd : answer (.getSpd 3) fixture = some (.ok (25600 / 511)) := by decide +kernel
theorem test_getSr : answer (.getSr 3) fixture = some (.ok (4)) := by decide +kernel
theorem test_getPpr : answer (.getPpr 3) fixture = some (.ok (2)) := by decide +kernel
theorem test_getPpm3 : answer (.getPpm3 3) fixture = some (.ok (1000000)) := by decide +kernel
theorem test_getPpl : answer (.getPpl 3) fixture = some (.ok (1000)) := by decide +kernel
theorem test_getPpg : answer (.getPpg 3) fixture = some (.ok (473176473 / 125000)) := by decide +kernel
theorem test_getTac : answer (.getTac 3) fixture = some (.ok (1024)) := by decide +kernel
theorem test_getPps : answer (.getPps 3) fixture = some (.ok (32)) := by decide +kernel
theorem test_getPpm : answer (.getPpm 3) fixture = some (.ok (1920)) := by decide +kernel
theorem test_getPph : answer (.getPph 3) fixture = some (.ok (115200)) := by decide +kernel
theorem test_getRps : answer (.getRps 3) fixture = some (.ok (16)) := by decide +kernel
theorem test_getRpm : answer (.getRpm 3) fixture = some (.ok (960)) := by decide +kernel
theorem test_getRph : answer (.getRph 3) fixture = some (.ok (57600)) := by decide +kernel
theorem test_getM3ps : answer (.getM3ps 3) fixture = some (.ok (1 / 31250)) := by decide +kernel
theorem test_getM3pm : answer (.getM3pm 3) fixture = some (.ok (6 / 3125)) := by decide +kernel
theorem test_getM3ph : answer (.getM3ph 3) fixture = some (.ok (72 / 625)) := by decide +kernel
theorem test_getLps : answer (.getLps 3) fixture = some (.ok (4 / 125)) := by decide +kernel
theorem test_getLpm : answer (.getLpm 3) fixture = some (.ok (48 / 25)) := by decide +kernel
theorem test_getLph : answer (.getLph 3) fixture = some (.ok (576 / 5)) := by decide +kernel
theorem test_getGps : answer (.getGps 3) fixture = some (.ok (4000000 / 473176473)) := by decide +kernel
theorem test_getGpm : answer (.getGpm 3) fixture = some (.ok (80000000 / 157725491)) := by decide +kernel
theorem test_getGph : answer (.getGph 3) fixture = some (.ok (4800000000 / 157725491)) := by decide +kernel
theorem test_getMode : answer (.getMode 3) fixture = some (.ok (1)) := by decide +kernel
theorem test_getTgt : answer (.getTgt 3) fixture = some (.ok (960)) := by decide +kernel
theorem test_getAt_after_reset : answer (.getAt 3) fixture = some (.ok (0)) := by decide +kernel
theorem test_getAt_set : answer (.getAt 3) { fixture with atEn := fixture.atEn.set .ch3 true } = some (.ok (1)) := by decide +kernel
theorem test_getPwm_parameter_0x40 : answer (.getPwm 2) { membus [(0x42, 0x96)] (wdata 0) with params := { Params.default with dutyRdBase := .dutySet } } = some (.ok (300)) := by decide +kernel
theorem test_getSr_code_6 : answer (.getSr 3) (membus [(0x0A, 0xDF)] (wdata 0)) = some (.error .unrecognizedEncoding) ∧ transactions (.getSr 3) (membus [(0x0A, 0xDF)] (wdata 0)) = some 3 := by decide +kernel
theorem test_getTac_saturated : answer (.getTac 1) (membus [(0x18, 0xFF), (0x19, 0xFF)] (wdata 0)) = some (.ok (2047)) := by decide +kernel
theorem test_getPps_stalled : answer (.getPps 3) (membus [(0x1C, 0xFF), (0x1D, 0xE0)] (wdata 0)) = some (.error .noSignal) ∧ transactions (.getPps 3) (membus [(0x1C, 0xFF), (0x1D, 0xE0)] (wdata 0)) = some 1 := by decide +kernel
theorem test_getRpm_count_1500 : answer (.getRpm 3) (membus [(0x0A, 0x40), (0x1C, 0xBB), (0x1D, 0x80)] (wdata 0)) = some (.ok (16384 / 25)) := by decide +kernel
theorem test_getTgt_sentinel : answer (.getTgt 3) (membus [(0x54, 0xFF), (0x55, 0xE0)] (wdata 0)) = some (.ok (0)) := by decide +kernel

/-! SET commands (43_set_commands.md, the examples and corner cases). -/

theorem test_setPwm : (byteAfter (.setPwm 2) (membus [] (wdata 300)) 0x42, byteAfter (.setPwm 2) (membus [] (wdata 300)) 0x43) = (some 0x96, some 0x00) := by decide +kernel
theorem test_setPwm_512 : answer (.setPwm 2) (membus [] (wdata 512)) = some (.error .invalidArgument) ∧ transactions (.setPwm 2) (membus [] (wdata 512)) = some 0 := by decide +kernel
theorem test_setSr : byteAfter (.setSr 1) (membus [(0x08, 0x1F)] (wdata 4)) 0x08 = some 0x5F := by decide +kernel
theorem test_setSr_partial : byteAfter (.setSr 1) (scripted [.memory, .fail none] [(0x08, 0x5F)] (wdata 32)) 0x08 = some 0xDF ∧ answer (.setSr 1) (scripted [.memory, .fail none] [(0x08, 0x5F)] (wdata 32)) = some (.error .transportError) := by decide +kernel
theorem test_setPpr : (after (.setPpr 3) (membus [] (wdata 7))).map (fun t => t.ppr) = some { PerChannel.all 2 with ch3 := 7 } := by decide +kernel
theorem test_setPpr_negative : answer (.setPpr 3) (membus [] (wdata 0xFFFFFFFF)) = some (.error .invalidArgument) := by decide +kernel
theorem test_setPpm3 : (after (.setPpm3 3) (membus [] (wdata 4500))).map (fun t => t.ppm3) = some { PerChannel.all 1000000 with ch3 := 4500 } := by decide +kernel
theorem test_setPpm3_most_negative : answer (.setPpm3 3) (membus [] (wdata 0x80000000)) = some (.error .invalidArgument) := by decide +kernel
theorem test_setMode : byteAfter (.setMode 3) (membus [(0x04, 0x08)] (wdata 1)) 0x04 = some 0x88 := by decide +kernel
theorem test_setMode_ignores_high_bits : byteAfter (.setMode 3) (membus [(0x04, 0x88)] (wdata 2)) 0x04 = some 0x08 := by decide +kernel
theorem test_setTgt : (byteAfter (.setTgt 3) (membus [(0x0A, 0x40)] (wdata 960)) 0x54, byteAfter (.setTgt 3) (membus [(0x0A, 0x40)] (wdata 960)) 0x55) = (some 0x80, some 0x00) := by decide +kernel
theorem test_setTgt_121 : (byteAfter (.setTgt 3) (membus [] (wdata 121)) 0x54, byteAfter (.setTgt 3) (membus [] (wdata 121)) 0x55) = (some 0xFD, some 0xE0) := by decide +kernel
theorem test_setAt : (after (.setAt 3) (membus [] (wdata 1))).map (fun t => t.atEn) = some { PerChannel.all false with ch3 := true } := by decide +kernel

/-! Kernels (40_field_codec.md, 41_unit_conversion.md: the example of each rule, and the worked corner cases). -/

theorem test_kdecMode : answer .kdecMode (membus [] (wdata 0x7F)) = some (.ok (0)) := by decide +kernel
theorem test_kdecSr : answer .kdecSr (membus [] (wdata 0x5F)) = some (.ok (4)) := by decide +kernel
theorem test_kdecSr_code_6 : answer .kdecSr (membus [] (wdata 0xC0)) = some (.error .unrecognizedEncoding) := by decide +kernel
theorem test_kdecDuty : answer .kdecDuty (membus [] (wdata 0x8000)) = some (.ok (256)) := by decide +kernel
theorem test_kdecTach : answer .kdecTach (membus [] (wdata 0x2EE0)) = some (.ok (375)) := by decide +kernel
theorem test_kencSr : answer .kencSr (membus [] (wdata 16)) = some (.ok (4)) := by decide +kernel
theorem test_kencSr_high_bit : answer .kencSr (membus [] (wdata 0x80000001)) = some (.error .invalidArgument) := by decide +kernel
theorem test_kencDuty : answer .kencDuty (membus [] (wdata 511)) = some (.ok (65408)) := by decide +kernel
theorem test_kencTach : answer .kencTach (membus [] (wdata 2047)) = some (.ok (65504)) := by decide +kernel
theorem test_ktgtEnc : answer .ktgtEnc (membus [] (request 960 0 4 2 0)) = some (.ok (1024)) := by decide +kernel
theorem test_ktgtEnc_too_slow : answer .ktgtEnc (membus [] (request 120 0 1 2 0)) = some (.error .invalidArgument) := by decide +kernel
theorem test_ktgtDec : answer .ktgtDec (membus [] (request 0 983 4 2 0)) = some (.ok (983040 / 983)) := by decide +kernel
theorem test_ktgtDec_zero : answer .ktgtDec (membus [] (request 0 0 4 2 0)) = some (.error .noSignal) := by decide +kernel
theorem test_kconvSpd : answer .kconvSpd (membus [] (wdata 256)) = some (.ok (25600 / 511)) := by decide +kernel
theorem test_kconvPpl : answer .kconvPpl (membus [] (request 0 0 0 0 1000000)) = some (.ok (1000)) := by decide +kernel
theorem test_kconvPpg : answer .kconvPpg (membus [] (request 0 0 0 0 1000000)) = some (.ok (473176473 / 125000)) := by decide +kernel
theorem test_kconvPps : answer .kconvPps (membus [] (request 0 1024 4 2 1000000)) = some (.ok (32)) := by decide +kernel
theorem test_kconvPpm : answer .kconvPpm (membus [] (request 0 1024 4 2 1000000)) = some (.ok (1920)) := by decide +kernel
theorem test_kconvPph : answer .kconvPph (membus [] (request 0 1024 4 2 1000000)) = some (.ok (115200)) := by decide +kernel
theorem test_kconvRps : answer .kconvRps (membus [] (request 0 1024 4 2 1000000)) = some (.ok (16)) := by decide +kernel
theorem test_kconvRpm : answer .kconvRpm (membus [] (request 0 1024 4 2 1000000)) = some (.ok (960)) := by decide +kernel
theorem test_kconvRph : answer .kconvRph (membus [] (request 0 1024 4 2 1000000)) = some (.ok (57600)) := by decide +kernel
theorem test_kconvM3ps : answer .kconvM3ps (membus [] (request 0 1024 4 2 1000000)) = some (.ok (1 / 31250)) := by decide +kernel
theorem test_kconvM3pm : answer .kconvM3pm (membus [] (request 0 1024 4 2 1000000)) = some (.ok (6 / 3125)) := by decide +kernel
theorem test_kconvM3ph : answer .kconvM3ph (membus [] (request 0 1024 4 2 1000000)) = some (.ok (72 / 625)) := by decide +kernel
theorem test_kconvLps : answer .kconvLps (membus [] (request 0 1024 4 2 1000000)) = some (.ok (4 / 125)) := by decide +kernel
theorem test_kconvLpm : answer .kconvLpm (membus [] (request 0 1024 4 2 1000000)) = some (.ok (48 / 25)) := by decide +kernel
theorem test_kconvLph : answer .kconvLph (membus [] (request 0 1024 4 2 1000000)) = some (.ok (576 / 5)) := by decide +kernel
theorem test_kconvGps : answer .kconvGps (membus [] (request 0 1024 4 2 1000000)) = some (.ok (4000000 / 473176473)) := by decide +kernel
theorem test_kconvGpm : answer .kconvGpm (membus [] (request 0 1024 4 2 1000000)) = some (.ok (80000000 / 157725491)) := by decide +kernel
theorem test_kconvGph : answer .kconvGph (membus [] (request 0 1024 4 2 1000000)) = some (.ok (4800000000 / 157725491)) := by decide +kernel
theorem test_kconvPps_illegal_sr_hides_noSignal : answer .kconvPps (membus [] (request 0 0 3 0 0)) = some (.error .invalidArgument) := by decide +kernel
theorem test_kconvLph_largest : answer .kconvLph (membus [] (request 0 1 32 0 1)) = some (.ok (943718400000)) := by decide +kernel
theorem test_resPort_largest : resOf 24 (.ok 943718400000) = 0xDBBA000000000000 := by decide +kernel
theorem test_resPort_rpm : resOf 24 (.ok (16384 / 25)) = 0x28F5C28F5 := by decide +kernel

/-! Steps. -/

/-- A state whose next step accepts the word `cw`. -/
def ready (cw : Word16) (w : Word32) : State := { membus [] (wdata w) with reqValid := true, req := { wdata w with cw := cw } }

theorem test_step_runs_the_word : step ((ready 0 7).withFetchWord 16 0x4303) = exec (.setPpr 3) ((ready 0 7).withFetchWord 16 0x4303) := rfl
theorem test_step_reset_edge : (match step { ready 0x4303 7 with rst := true, ppr := PerChannel.all 9 } with | .next t => t.ppr.ch3 | _ => 0) = 2 := by decide +kernel
theorem test_step_hung : step { ready 0x4303 7 with phase := .busy } = .fault .busNeverAnswers := rfl
theorem test_step_transport_error : answer (.getTac 1) (scripted [.fail none] [] (wdata 0)) = some (.error .transportError) := by decide +kernel
theorem test_tuner_scenario_1 : tuneRow 2047 4 = .setSr 2 ∧ tuneRow 2047 1 = .unreachable := by decide +kernel
theorem test_tuner_scenario_2 : tuneRow 1500 4 = .stop := by decide +kernel

/-! Witnesses: one for each statement with hypotheses, one for each of its clauses. -/

theorem witness_RejectedWordsAnswerByPriority_class :
    Accepts (ready 0xc123 7) ∧ (ready 0xc123 7).req.cw.toNat = 3 * 16384 + 1 * 256 + 4 * 8 + 3 ∧ 3 < 4 ∧ 1 < 64 ∧ 4 < 32 ∧ 3 < 8 := ⟨⟨by decide, by decide, by decide⟩, by decide⟩
theorem witness_RejectedWordsAnswerByPriority_channel :
    Accepts (ready 0x0 7) ∧ (ready 0x0 7).req.cw.toNat = 0 * 16384 + 0 * 256 + 0 * 8 + 0 ∧ 0 < 4 ∧ 0 < 64 ∧ 0 < 32 ∧ 0 < 8 := ⟨⟨by decide, by decide, by decide⟩, by decide⟩
theorem witness_RejectedWordsAnswerByPriority_channel_7 :
    Accepts (ready 0x50ff 7) ∧ (ready 0x50ff 7).req.cw.toNat = 1 * 16384 + 16 * 256 + 31 * 8 + 7 ∧ 1 < 4 ∧ 16 < 64 ∧ 31 < 32 ∧ 7 < 8 := ⟨⟨by decide, by decide, by decide⟩, by decide⟩
theorem witness_RejectedWordsAnswerByPriority_reserved :
    Accepts (ready 0xf9 7) ∧ (ready 0xf9 7).req.cw.toNat = 0 * 16384 + 0 * 256 + 31 * 8 + 1 ∧ 0 < 4 ∧ 0 < 64 ∧ 31 < 32 ∧ 1 < 8 := ⟨⟨by decide, by decide, by decide⟩, by decide⟩
theorem witness_RejectedWordsAnswerByPriority_kernel_channel :
    Accepts (ready 0x8107 7) ∧ (ready 0x8107 7).req.cw.toNat = 2 * 16384 + 1 * 256 + 0 * 8 + 7 ∧ 2 < 4 ∧ 1 < 64 ∧ 0 < 32 ∧ 7 < 8 := ⟨⟨by decide, by decide, by decide⟩, by decide⟩
theorem witness_RejectedWordsAnswerByPriority_function :
    Accepts (ready 0x4101 7) ∧ (ready 0x4101 7).req.cw.toNat = 1 * 16384 + 1 * 256 + 0 * 8 + 1 ∧ 1 < 4 ∧ 1 < 64 ∧ 0 < 32 ∧ 1 < 8 := ⟨⟨by decide, by decide, by decide⟩, by decide⟩
theorem witness_RejectedWordsAnswerByPriority_accepted :
    Accepts (ready 0xa800 7) ∧ (ready 0xa800 7).req.cw.toNat = 2 * 16384 + 40 * 256 + 0 * 8 + 0 ∧ 2 < 4 ∧ 40 < 64 ∧ 0 < 32 ∧ 0 < 8 := ⟨⟨by decide, by decide, by decide⟩, by decide⟩
theorem witness_EveryWordIsAnswered :
    Accepts (ready 0xFFFF 7) := ⟨by decide, by decide, by decide⟩
theorem witness_StepRunsTheDecodedCommand :
    Accepts (ready 0x4303 7) ∧ decode (ready 0x4303 7).req.cw = .ok (.setPpr 3) := ⟨⟨by decide, by decide, by decide⟩, by decide⟩
theorem witness_EncodeDecodeRoundTrip :
    decode 0xA800 = .ok .ktgtDec := by decide +kernel
theorem witness_BadChannelAnswersInvalidChannel_word :
    Accepts (ready 0x7FFF 7) ∧ (ready 0x7FFF 7).req.cw.toNat / 16384 ≤ 1 ∧ (ready 0x7FFF 7).req.cw.toNat % 8 = 7 := ⟨⟨by decide, by decide, by decide⟩, by decide⟩
theorem witness_BadChannelAnswersInvalidChannel_exec :
    (Instr.setTgt 0).channel = some 0 ∧ (Instr.getPwm 7).channel = some 7 := by decide +kernel
theorem witness_BadChannelAnswersInvalidChannel_kernel :
    Accepts (ready 0xBFFF 7) ∧ (ready 0xBFFF 7).req.cw.toNat / 16384 = 2 ∧ ∃ t, step (ready 0xBFFF 7) = .next t := ⟨⟨by decide, by decide, by decide⟩, by decide, _, rfl⟩
theorem witness_CalibrationGetsAnswer :
    (1 : BitVec 3).toNat = Channel.ch1.index + 1 ∧ (6 : BitVec 3).toNat = Channel.ch6.index + 1 := by decide +kernel
theorem witness_OneTransactionGetsAnswer_duty :
    (3 : BitVec 3).toNat = Channel.ch3.index + 1 ∧ ∃ w s1, issueAll fixture.accept [.memRead (offDutyRd fixture.params.dutyRdBase .ch3)] = some ([w], s1) := ⟨by decide, _, _, rfl⟩
theorem witness_OneTransactionGetsAnswer_count :
    (3 : BitVec 3).toNat = Channel.ch3.index + 1 ∧ ∃ w s1, issueAll fixture.accept [.memRead (offTach .ch3)] = some ([w], s1) := ⟨by decide, _, _, rfl⟩
theorem witness_OneTransactionGetsAnswer_mode :
    (3 : BitVec 3).toNat = Channel.ch3.index + 1 ∧ ∃ w s1, issueAll fixture.accept [.bitRead (offCfg .ch3) 7] = some ([w], s1) := ⟨by decide, _, _, rfl⟩

/-- The fixture with the speed-range bits of `code` and the parameter SR_UNMATCHED. -/
def withCode (code : Byte) (u : SrUnmatched) (w : Word32) : State :=
  { membus [(0x0A, code), (0x1C, 0x80), (0x54, 0x80)] (wdata w) with params := { Params.default with srUnmatched := u } }

theorem witness_SpeedRangeGetAnswers_code_5 :
    (3 : BitVec 3).toNat = Channel.ch3.index + 1 ∧ (withCode 0xA0 .error 0).params.srUnmatched = .error ∧ ∃ b7 b6 b5 s1, issueAll (withCode 0xA0 .error 0).accept (srReads .ch3) = some ([b7, b6, b5], s1) ∧ codeOf b7 b6 b5 ≤ 5 := ⟨by decide, rfl, _, _, _, _, rfl, by decide⟩
theorem witness_SpeedRangeGetAnswers_alias32 :
    (3 : BitVec 3).toNat = Channel.ch3.index + 1 ∧ (withCode 0xC0 .alias32 0).params.srUnmatched = .alias32 ∧ ∃ b7 b6 b5 s1, issueAll (withCode 0xC0 .alias32 0).accept (srReads .ch3) = some ([b7, b6, b5], s1) ∧ 6 ≤ codeOf b7 b6 b5 := ⟨by decide, rfl, _, _, _, _, rfl, by decide⟩
theorem witness_SpeedRangeGetAnswers_unmatched :
    (3 : BitVec 3).toNat = Channel.ch3.index + 1 ∧ (withCode 0xE0 .error 0).params.srUnmatched = .error ∧ ∃ b7 b6 b5 s1, issueAll (withCode 0xE0 .error 0).accept (srReads .ch3) = some ([b7, b6, b5], s1) ∧ 6 ≤ codeOf b7 b6 b5 := ⟨by decide, rfl, _, _, _, _, rfl, by decide⟩
theorem witness_RateGetsAnswer :
    (3 : BitVec 3).toNat = Channel.ch3.index + 1 ∧ ∃ wt b7 b6 b5 s1, issueAll (withCode 0x40 .error 0).accept (rateReads .ch3) = some ([wt, b7, b6, b5], s1) ∧ wt.toNat / 32 ≠ 0 ∧ wt.toNat / 32 ≠ 2047 ∧ SrIs (withCode 0x40 .error 0).params.srUnmatched (codeOf b7 b6 b5) 4 := ⟨by decide, _, _, _, _, _, rfl, by decide, by decide, .inl (by decide)⟩
theorem witness_RateGetsAnswer_alias32 :
    (3 : BitVec 3).toNat = Channel.ch3.index + 1 ∧ ∃ wt b7 b6 b5 s1, issueAll (withCode 0xE0 .alias32 0).accept (rateReads .ch3) = some ([wt, b7, b6, b5], s1) ∧ wt.toNat / 32 ≠ 0 ∧ wt.toNat / 32 ≠ 2047 ∧ SrIs (withCode 0xE0 .alias32 0).params.srUnmatched (codeOf b7 b6 b5) 32 := ⟨by decide, _, _, _, _, _, rfl, by decide, by decide, .inr (by decide)⟩
theorem witness_RateGetBody_unmatched :
    (3 : BitVec 3).toNat = Channel.ch3.index + 1 ∧ (withCode 0xE0 .error 0).params.srUnmatched = .error ∧ ∃ wt b7 b6 b5 s1, issueAll (withCode 0xE0 .error 0).accept (rateReads .ch3) = some ([wt, b7, b6, b5], s1) ∧ wt.toNat / 32 ≠ 0 ∧ wt.toNat / 32 ≠ 2047 ∧ 6 ≤ codeOf b7 b6 b5 := ⟨by decide, rfl, _, _, _, _, _, rfl, by decide, by decide, by decide⟩
theorem witness_RateGetBody_zero :
    (3 : BitVec 3).toNat = Channel.ch3.index + 1 ∧ ∃ wt s1, issueAll (membus [] (wdata 0)).accept [.memRead (offTach .ch3)] = some ([wt], s1) ∧ wt.toNat / 32 = 0 := ⟨by decide, _, _, rfl, by decide⟩
theorem witness_RateGetBody_saturated :
    (3 : BitVec 3).toNat = Channel.ch3.index + 1 ∧ ∃ wt s1, issueAll (membus [(0x1C, 0xFF), (0x1D, 0xFF)] (wdata 0)).accept [.memRead (offTach .ch3)] = some ([wt], s1) ∧ wt.toNat / 32 = 2047 := ⟨by decide, _, _, rfl, by decide⟩
theorem witness_TargetGetAnswers_zero :
    (3 : BitVec 3).toNat = Channel.ch3.index + 1 ∧ (membus [(0x55, 0x1F)] (wdata 0)).params.tgtSentinelDecode = .zero ∧ ∃ wt s1, issueAll (membus [(0x55, 0x1F)] (wdata 0)).accept [.memRead (offTgt .ch3)] = some ([wt], s1) ∧ wt.toNat / 32 = 0 := ⟨by decide, rfl, _, _, rfl, by decide⟩
theorem witness_TargetGetAnswers_sentinel :
    (3 : BitVec 3).toNat = Channel.ch3.index + 1 ∧ (membus [(0x54, 0xFF), (0x55, 0xE0)] (wdata 0)).params.tgtSentinelDecode = .zero ∧ ∃ wt s1, issueAll (membus [(0x54, 0xFF), (0x55, 0xE0)] (wdata 0)).accept [.memRead (offTgt .ch3)] = some ([wt], s1) ∧ wt.toNat / 32 = 2047 := ⟨by decide, rfl, _, _, rfl, by decide⟩
theorem witness_TargetGetAnswers_value :
    (3 : BitVec 3).toNat = Channel.ch3.index + 1 ∧ ∃ wt b7 b6 b5 s1, issueAll (withCode 0x40 .error 0).accept (.memRead (offTgt .ch3) :: srReads .ch3) = some ([wt, b7, b6, b5], s1) ∧ wt.toNat / 32 ≠ 0 ∧ (wt.toNat / 32 = 2047 → (withCode 0x40 .error 0).params.tgtSentinelDecode = .identity) ∧ SrIs (withCode 0x40 .error 0).params.srUnmatched (codeOf b7 b6 b5) 4 := ⟨by decide, _, _, _, _, _, rfl, by decide, by decide, .inl (by decide)⟩
theorem witness_TargetGetAnswers_unmatched :
    (3 : BitVec 3).toNat = Channel.ch3.index + 1 ∧ (withCode 0xC0 .error 0).params.srUnmatched = .error ∧ ∃ wt b7 b6 b5 s1, issueAll (withCode 0xC0 .error 0).accept (.memRead (offTgt .ch3) :: srReads .ch3) = some ([wt, b7, b6, b5], s1) ∧ wt.toNat / 32 ≠ 0 ∧ (wt.toNat / 32 = 2047 → (withCode 0xC0 .error 0).params.tgtSentinelDecode = .identity) ∧ 6 ≤ codeOf b7 b6 b5 := ⟨by decide, rfl, _, _, _, _, _, rfl, by decide, by decide, by decide⟩

/-- The fixture of the last two with the identity parameter and the sentinel in the register. -/
def identityState : State :=
  { membus [(0x0A, 0x40), (0x54, 0xFF), (0x55, 0xE0)] (wdata 0) with params := { Params.default with tgtSentinelDecode := .identity } }

theorem witness_TargetGetAnswers_identity :
    (3 : BitVec 3).toNat = Channel.ch3.index + 1 ∧ ∃ wt b7 b6 b5 s1, issueAll identityState.accept (.memRead (offTgt .ch3) :: srReads .ch3) = some ([wt, b7, b6, b5], s1) ∧ wt.toNat / 32 ≠ 0 ∧ (wt.toNat / 32 = 2047 → identityState.params.tgtSentinelDecode = .identity) ∧ SrIs identityState.params.srUnmatched (codeOf b7 b6 b5) 4 := ⟨by decide, _, _, _, _, _, rfl, by decide, by decide, .inl (by decide)⟩
theorem witness_DutySetWrites_legal :
    (3 : BitVec 3).toNat = Channel.ch3.index + 1 ∧ (membus [] (wdata 511)).req.wdata.toNat ≤ 511 ∧ ∃ w0 s1, issueAll (membus [] (wdata 511)).accept [.memWrite (offDutySet .ch3) (BitVec.ofNat 16 ((membus [] (wdata 511)).req.wdata.toNat * 128))] = some ([w0], s1) := ⟨by decide, by decide, _, _, rfl⟩
theorem witness_DutySetWrites_illegal :
    (3 : BitVec 3).toNat = Channel.ch3.index + 1 ∧ 511 < (membus [] (wdata 512)).req.wdata.toNat := by decide +kernel
theorem witness_SpeedRangeSetWrites_legal :
    (3 : BitVec 3).toNat = Channel.ch3.index + 1 ∧ (membus [] (wdata 32)).req.wdata.toNat = 2 ^ 5 ∧ ∃ w2 w1 w0 s1, issueAll (membus [] (wdata 32)).accept (srWrites .ch3 5) = some ([w2, w1, w0], s1) := ⟨by decide, by decide, _, _, _, _, rfl⟩
theorem witness_SpeedRangeSetWrites_illegal :
    (3 : BitVec 3).toNat = Channel.ch3.index + 1 ∧ (membus [] (wdata 64)).req.wdata.toNat ∉ [1, 2, 4, 8, 16, 32] := by decide +kernel
theorem witness_ModeSetWrites :
    (3 : BitVec 3).toNat = Channel.ch3.index + 1 ∧ ∃ w0 s1, issueAll (membus [] (wdata 3)).accept [.bitWrite (offCfg .ch3) 7 ((membus [] (wdata 3)).req.wdata.getLsbD 0)] = some ([w0], s1) := ⟨by decide, _, _, rfl⟩
theorem witness_TargetSetWrites_sentinel :
    (3 : BitVec 3).toNat = Channel.ch3.index + 1 ∧ (membus [] (wdata 0)).req.wdata = 0 ∧ ∃ w0 s1, issueAll (membus [] (wdata 0)).accept [.memWrite (offTgt .ch3) 0xFFE0] = some ([w0], s1) := ⟨by decide, rfl, _, _, rfl⟩
theorem witness_TargetSetWrites_legal :
    (3 : BitVec 3).toNat = Channel.ch3.index + 1 ∧ (withCode 0x40 .error 960).req.wdata ≠ 0 ∧ 1024 = (60 * 4 * 8192) / (((withCode 0x40 .error 960).ppr.get .ch3).toNat * (withCode 0x40 .error 960).req.wdata.toNat) ∧ ∃ b7 b6 b5 w0 s1, issueAll (withCode 0x40 .error 960).accept (srReads .ch3 ++ [.memWrite (offTgt .ch3) (BitVec.ofNat 16 (1024 * 32))]) = some ([b7, b6, b5, w0], s1) ∧ SrIs (withCode 0x40 .error 960).params.srUnmatched (codeOf b7 b6 b5) 4 := ⟨by decide, by decide, by decide, _, _, _, _, _, rfl, .inl (by decide)⟩
theorem witness_TargetSetWrites_slow :
    (3 : BitVec 3).toNat = Channel.ch3.index + 1 ∧ (withCode 0x40 .error 480).req.wdata ≠ 0 ∧ 2046 < (60 * 4 * 8192) / (((withCode 0x40 .error 480).ppr.get .ch3).toNat * (withCode 0x40 .error 480).req.wdata.toNat) ∧ ∃ b7 b6 b5 s1, issueAll (withCode 0x40 .error 480).accept (srReads .ch3) = some ([b7, b6, b5], s1) ∧ SrIs (withCode 0x40 .error 480).params.srUnmatched (codeOf b7 b6 b5) 4 := ⟨by decide, by decide, by decide, _, _, _, _, rfl, .inl (by decide)⟩
theorem witness_TargetSetWrites_fast :
    (3 : BitVec 3).toNat = Channel.ch3.index + 1 ∧ (withCode 0x40 .error 983041).req.wdata ≠ 0 ∧ (60 * 4 * 8192) / (((withCode 0x40 .error 983041).ppr.get .ch3).toNat * (withCode 0x40 .error 983041).req.wdata.toNat) = 0 ∧ ∃ b7 b6 b5 s1, issueAll (withCode 0x40 .error 983041).accept (srReads .ch3) = some ([b7, b6, b5], s1) ∧ SrIs (withCode 0x40 .error 983041).params.srUnmatched (codeOf b7 b6 b5) 4 := ⟨by decide, by decide, by decide, _, _, _, _, rfl, .inl (by decide)⟩
theorem witness_TargetSetWrites_unmatched :
    (3 : BitVec 3).toNat = Channel.ch3.index + 1 ∧ (withCode 0xC0 .error 960).req.wdata ≠ 0 ∧ (withCode 0xC0 .error 960).params.srUnmatched = .error ∧ ∃ b7 b6 b5 s1, issueAll (withCode 0xC0 .error 960).accept (srReads .ch3) = some ([b7, b6, b5], s1) ∧ 6 ≤ codeOf b7 b6 b5 := ⟨by decide, by decide, rfl, _, _, _, _, rfl, by decide⟩
theorem witness_CalibrationSetsWrite :
    (3 : BitVec 3).toNat = Channel.ch3.index + 1 ∧ 1 ≤ (membus [] (wdata 0x7FFFFFFF)).req.wdata.toInt ∧ (membus [] (wdata 0)).req.wdata.toInt < 1 ∧ (membus [] (wdata 0x80000000)).req.wdata.toInt < 1 := by decide +kernel
theorem witness_FieldEncodeKernels :
    srWrites .ch3 4 = [.bitWrite (offDyn .ch3) 7 true, .bitWrite (offDyn .ch3) 6 false, .bitWrite (offDyn .ch3) 5 false] ∧ (4 : Nat) ≤ 5 ∧ (membus [] (wdata 16)).req.wdata.toNat = 2 ^ 4 := by decide +kernel
theorem witness_PulseAndRevolutionKernels :
    ∃ t sr n m, t = fixture.req.kcount.toNat ∧ sr = fixture.req.ksr.toNat ∧ n = fixture.req.kppr.toNat ∧ m = fixture.req.kppm3.toNat := ⟨_, _, _, _, rfl, rfl, rfl, rfl⟩
theorem witness_PulseAndRevolutionKernels_identity :
    (1 : BitVec 11) ≠ 0 ∧ (1 : BitVec 11) ≠ 2047 ∧ (2046 : BitVec 11) ≠ 2047 := by decide +kernel
theorem witness_KernelResponseDependsOnRequestOnly :
    Instr.ktgtDec.isKernel = true ∧ (membus [] (request 1 5 4 2 3)).params = (membus [(2, 1)] (request 9 5 4 2 8)).params ∧ (request 1 5 4 2 3).kcount = (request 9 5 4 2 8).kcount ∧ (request 1 5 4 2 3).ksr = (request 9 5 4 2 8).ksr ∧ (request 1 5 4 2 3).kppr = (request 9 5 4 2 8).kppr := by decide +kernel
theorem witness_CommandsIgnoreUnreadFields :
    ((Instr.getRpm 3).isGet = true ∧ ∃ t, exec (.getRpm 3) fixture = .next t) ∧ ((Instr.setSr 3).isSet = true ∧ (request 0 1 2 3 4).wdata = fixture.req.wdata ∧ ∃ t, exec (.setSr 3) fixture = .next t) := ⟨⟨by decide, _, rfl⟩, by decide, by decide, _, rfl⟩
theorem witness_GetAndKernelFrame :
    ((Instr.getRpm 3).isGet = true ∧ ∃ t, exec (.getRpm 3) fixture = .next t) ∧ (Instr.kconvRpm.isKernel = true ∧ ∃ t, exec .kconvRpm fixture = .next t) := ⟨⟨by decide, _, rfl⟩, by decide, _, rfl⟩
theorem witness_CalibrationSetFrame :
    (∃ t, exec (.setPpr 3) fixture = .next t) ∧ (∃ t, exec (.setPpm3 3) fixture = .next t) ∧ (∃ t, exec (.setAt 3) fixture = .next t) ∧ (3 : BitVec 3).toNat ≠ Channel.ch4.index + 1 := ⟨⟨_, rfl⟩, ⟨_, rfl⟩, ⟨_, rfl⟩, by decide⟩
theorem witness_WordSetFrame :
    (∃ t, exec (.setPwm 3) fixture = .next t) ∧ (∃ t, exec (.setTgt 3) fixture = .next t) ∧ (∃ t, exec (.setTgt 0) fixture = .next t) ∧ (3 : BitVec 3).toNat = Channel.ch3.index + 1 := ⟨⟨_, rfl⟩, ⟨_, rfl⟩, ⟨_, rfl⟩, by decide⟩
theorem witness_BitSetFrame :
    (∃ t, exec (.setSr 3) fixture = .next t) ∧ (∃ t, exec (.setMode 3) fixture = .next t) ∧ (∃ t, exec (.setMode 7) fixture = .next t) ∧ (3 : BitVec 3).toNat = Channel.ch3.index + 1 := ⟨⟨_, rfl⟩, ⟨_, rfl⟩, ⟨_, rfl⟩, by decide⟩
theorem witness_CalibrationHasOneWriter :
    (∃ t, exec (.setPpr 3) (membus [] (wdata 7)) = .next t ∧ t.ppr.get .ch3 ≠ (membus [] (wdata 7)).ppr.get .ch3) ∧ (∃ t, exec (.setPpm3 3) (membus [] (wdata 7)) = .next t ∧ t.ppm3.get .ch3 ≠ (membus [] (wdata 7)).ppm3.get .ch3) ∧ (∃ t, exec (.setAt 3) (membus [] (wdata 7)) = .next t ∧ t.atEn.get .ch3 ≠ (membus [] (wdata 7)).atEn.get .ch3) := ⟨⟨_, rfl, by decide⟩, ⟨_, rfl, by decide⟩, ⟨_, rfl, by decide⟩⟩
theorem witness_FailingCommandHasNoEffect :
    ∃ t, exec (.setSr 3) (scripted [.memory, .memory, .fail none] [] (wdata 32)) = .next t ∧ t.response = some (.error .transportError) ∧ ∃ x ∈ t.trace, x.wrote = true := ⟨_, rfl, rfl, _, List.mem_cons_self, rfl⟩
theorem witness_TransportErrorEndsTheCommand :
    ∃ t pre x, exec (.setSr 3) (scripted [.memory, .memory, .fail none] [] (wdata 32)) = .next t ∧ t.trace = pre ++ x :: [] ∧ x.outcome = .failed := ⟨_, [_, _], _, rfl, rfl, rfl⟩
theorem witness_PendingTransactionLeavesTheBlockBusy :
    (∃ t, exec (.getTac 3) (scripted [.pending none] [] (wdata 0)) = .next t ∧ t.phase = .busy) ∧ (∃ s : State, s.phase = .busy ∧ s.rst = false ∧ s.host.program.head? ≠ some .reset) ∧ (∃ s : State, s.phase = .busy ∧ s.rst = true) := ⟨⟨_, rfl, rfl⟩, ⟨{ State.reset with phase := .busy }, by decide⟩, ⟨{ State.reset with phase := .busy, rst := true }, by decide⟩⟩

/-- A list of transactions that all succeeded, decided. -/
theorem noneFailed_of (t : State) (h : (t.trace.all fun x => match x.outcome with | .done _ => true | .failed => false | .pending => false) = true) : noneFailed t := by
  intro x hx
  have hx' := List.all_eq_true.mp h x hx
  cases ho : x.outcome with
  | done w => exact ⟨w, rfl⟩
  | failed => simp [ho] at hx'
  | pending => simp [ho] at hx'

theorem witness_TransactionCountsGet :
    (3 : BitVec 3).toNat = Channel.ch3.index + 1 ∧ (∃ t, exec (.getPpr 3) fixture = .next t ∧ noneFailed t) ∧ (∃ t, exec (.getPwm 3) fixture = .next t ∧ noneFailed t) ∧ (∃ t, exec (.getSr 3) fixture = .next t ∧ noneFailed t) ∧ (∃ t, exec (.getRpm 3) fixture = .next t ∧ noneFailed t) ∧ (∃ t, exec (.getTgt 3) fixture = .next t ∧ noneFailed t) ∧ (∃ t, exec (.getTac 0) fixture = .next t ∧ noneFailed t) := ⟨by decide, ⟨_, rfl, noneFailed_of _ rfl⟩, ⟨_, rfl, noneFailed_of _ rfl⟩, ⟨_, rfl, noneFailed_of _ rfl⟩, ⟨_, rfl, noneFailed_of _ rfl⟩, ⟨_, rfl, noneFailed_of _ rfl⟩, ⟨_, rfl, noneFailed_of _ rfl⟩⟩
theorem witness_TransactionCountsSet :
    (3 : BitVec 3).toNat = Channel.ch3.index + 1 ∧ (∃ t, exec (.setPpr 3) (membus [] (wdata 7)) = .next t ∧ noneFailed t) ∧ (∃ t, exec (.setPwm 3) (membus [] (wdata 511)) = .next t ∧ noneFailed t) ∧ (∃ t, exec (.setPwm 3) (membus [] (wdata 512)) = .next t ∧ noneFailed t) ∧ (∃ t, exec (.setMode 3) (membus [] (wdata 1)) = .next t ∧ noneFailed t) ∧ (∃ t, exec (.setSr 3) (membus [] (wdata 32)) = .next t ∧ noneFailed t) ∧ (∃ t, exec (.setTgt 3) (membus [] (wdata 0)) = .next t ∧ noneFailed t) ∧ (∃ t, exec (.setTgt 3) (membus [] (wdata 960)) = .next t ∧ noneFailed t) ∧ (∃ t, exec (.setTgt 3) (membus [] (wdata 120)) = .next t ∧ noneFailed t) := ⟨by decide, ⟨_, rfl, noneFailed_of _ rfl⟩, ⟨_, rfl, noneFailed_of _ rfl⟩, ⟨_, rfl, noneFailed_of _ rfl⟩, ⟨_, rfl, noneFailed_of _ rfl⟩, ⟨_, rfl, noneFailed_of _ rfl⟩, ⟨_, rfl, noneFailed_of _ rfl⟩, ⟨_, rfl, noneFailed_of _ rfl⟩, ⟨_, rfl, noneFailed_of _ rfl⟩⟩
theorem witness_TransactionsStayOnTheMap :
    ∃ t, exec (.setTgt 6) (membus [] (wdata 960)) = .next t ∧ t.trace.length = 4 := ⟨_, rfl, rfl⟩
theorem witness_StatusesByCommand :
    (∃ t, exec (.getSr 3) (withCode 0xC0 .error 0) = .next t ∧ t.response = some (.error .unrecognizedEncoding)) ∧ (∃ t, exec .kdecSr (withCode 0 .error 0xFF) = .next t ∧ t.response = some (.error .unrecognizedEncoding)) ∧ (∃ t, exec (.getPps 3) (membus [] (wdata 0)) = .next t ∧ t.response = some (.error .noSignal)) := ⟨⟨_, rfl, rfl⟩, ⟨_, rfl, rfl⟩, ⟨_, rfl, rfl⟩⟩
theorem witness_ResponsePort :
    (∃ s : State, s.response = some (.error .noSignal)) ∧ (∃ s : State, s.response = some (.ok 2) ∧ (0 : Rat) ≤ 2 ∧ (2 : Rat) * 2 ^ s.params.frac < 2 ^ 64) ∧ (∃ s : State, s.response = none) := ⟨⟨State.reset.raise .noSignal, rfl⟩, ⟨State.reset.ok 2, rfl, by decide +kernel, by decide +kernel⟩, ⟨State.reset, rfl⟩⟩
theorem witness_SpeedRangeCodec :
    (32 : Nat) ∈ [1, 2, 4, 8, 16, 32] ∧ (33 : Nat) ∉ [1, 2, 4, 8, 16, 32] := by decide +kernel
theorem witness_TargetEncodingRange :
    (121 : Nat) < 2 ^ 32 ∧ (1 : Nat) ∈ [1, 2, 4, 8, 16, 32] ∧ (1 : Nat) ≤ 2 ∧ (2 : Nat) < 2 ^ 31 ∧ (2031 : Nat) = (60 * 1 * 8192) / (2 * 121) ∧ (2048 : Nat) = (60 * 1 * 8192) / (2 * 120) := by decide +kernel
theorem witness_TargetRoundTrip :
    (4 : Nat) ∈ [1, 2, 4, 8, 16, 32] ∧ (1 : Nat) ≤ 2 ∧ (2 : Nat) < 2 ^ 31 ∧ (1 : Nat) ≤ 1000 ∧ tgtEnc 1000 4 2 = .ok 983 ∧ (983 : BitVec 11) ≠ 0 ∧ (983 : BitVec 11) ≠ 2047 := by decide +kernel
theorem witness_RateIdentities :
    (32 : Nat) ∈ [1, 2, 4, 8, 16, 32] ∧ (1 : Nat) ≤ 2147483647 ∧ (1 : BitVec 11) ≠ 0 ∧ (1 : BitVec 11) ≠ 2047 ∧ 1 ≤ (2046 : BitVec 11).toNat ∧ (2046 : BitVec 11).toNat ≤ 2046 := by decide +kernel
theorem witness_RatesDecreaseInCount :
    (1 : BitVec 11).toNat < (2046 : BitVec 11).toNat ∧ ∃ v1 v2, conv .rpm 1 32 1 1 = .ok v1 ∧ conv .rpm 2046 32 1 1 = .ok v2 := ⟨by decide, _, _, rfl, rfl⟩

/-- The machine at reset has legal calibration. -/
theorem calLegal_reset : CalLegal State.reset := by
  intro c; cases c <;> decide

theorem witness_ResultPortNeverOverflows :
    CalLegal (membus [] (request 0 1 32 0 1)) ∧ (membus [] (request 0 1 32 0 1)).params.frac = 24 ∧ (membus [] (request 0 1 32 0 1)).req.kcount = 1 ∧ (membus [] (request 0 1 32 0 1)).req.ksr = 32 ∧ (membus [] (request 0 1 32 0 1)).req.kppm3 = 1 ∧ ∃ t v, exec .kconvLph (membus [] (request 0 1 32 0 1)) = .next t ∧ t.response = some (.ok v) := ⟨calLegal_reset, rfl, rfl, rfl, rfl, _, _, rfl, rfl⟩
theorem witness_ResultPortNeverOverflows_get :
    (1 : BitVec 3).toNat = Channel.ch1.index + 1 ∧ ∃ (s s1 : State) (wt b7 b6 b5 : Word16), issueAll s.accept (rateReads .ch1) = some ([wt, b7, b6, b5], s1) ∧ wt.toNat / 32 = 1 ∧ codeOf b7 b6 b5 = 5 ∧ s.ppm3.get .ch1 = 1 := ⟨by decide, { membus [(0x08, 0xA0), (0x19, 0x20)] (wdata 0) with ppm3 := PerChannel.all 1 }, _, _, _, _, _, rfl, by decide, by decide, rfl⟩
theorem witness_StepKeepsTheInvariant :
    Inv State.reset ∧ ∃ t, step State.reset = .next t := ⟨⟨calLegal_reset, by decide, by decide, by decide⟩, _, rfl⟩
theorem witness_ResetEdge :
    ∃ s : State, s.rst = true ∧ s.phase = .busy := ⟨{ State.reset with rst := true, phase := .busy }, by decide⟩
theorem witness_PartialSpeedRangeWrite_1 :
    (3 : BitVec 3).toNat = Channel.ch3.index + 1 ∧ (scripted [.memory, .fail none] [] (wdata 32)).req.wdata.toNat = 2 ^ 5 ∧ (scripted [.memory, .fail none] [] (wdata 32)).env.script = List.replicate 1 .memory ++ .fail none :: [] := by decide +kernel
theorem witness_PartialSpeedRangeWrite_2 :
    (3 : BitVec 3).toNat = Channel.ch3.index + 1 ∧ (scripted [.memory, .memory, .fail none] [] (wdata 32)).req.wdata.toNat = 2 ^ 5 ∧ (scripted [.memory, .memory, .fail none] [] (wdata 32)).env.script = List.replicate 2 .memory ++ .fail none :: [] := by decide +kernel
theorem witness_SetThenGetReturnsTheValue :
    (3 : BitVec 3).toNat = Channel.ch3.index + 1 ∧ OnMembus (membus [] (wdata 32)) ∧ (membus [] (wdata 32)).req.wdata.toNat ∈ [1, 2, 4, 8, 16, 32] ∧ 1 ≤ (membus [] (wdata 32)).req.wdata.toInt ∧ ∃ s : State, OnMembus s ∧ s.req.wdata.toNat = 511 ∧ s.params.dutyRdBase = .dutySet := ⟨by decide, ⟨rfl, rfl⟩, by decide, by decide, { membus [] (wdata 511) with params := { Params.default with dutyRdBase := .dutySet } }, ⟨rfl, rfl⟩, by decide, rfl⟩
theorem witness_SetTargetThenGetTarget_sentinel :
    (3 : BitVec 3).toNat = Channel.ch3.index + 1 ∧ OnMembus (membus [] (wdata 0)) ∧ CalLegal (membus [] (wdata 0)) ∧ (membus [] (wdata 0)).params.tgtSentinelDecode = .zero ∧ ∃ t, exec (.setTgt 3) (membus [] (wdata 0)) = .next t ∧ t.response = some (.ok 0) := ⟨by decide, ⟨rfl, rfl⟩, calLegal_reset, rfl, _, rfl, rfl⟩
theorem witness_SetTargetThenGetTarget_value :
    (3 : BitVec 3).toNat = Channel.ch3.index + 1 ∧ OnMembus (membus [] (wdata 1000)) ∧ CalLegal (membus [] (wdata 1000)) ∧ (membus [] (wdata 1000)).params.tgtSentinelDecode = .zero ∧ ∃ t, exec (.setTgt 3) (membus [] (wdata 1000)) = .next t ∧ t.response = some (.ok 0) := ⟨by decide, ⟨rfl, rfl⟩, calLegal_reset, rfl, _, rfl, rfl⟩
theorem witness_TunerDecisions :
    (1 : Nat) ∈ [1, 2, 4, 8, 16, 32] ∧ ((2041 : Rat) > 2040 ∧ (2 : Nat) > 1) ∧ ((1001 : Rat) ≤ 2040 ∧ (1001 : Rat) > 1000) ∧ ((1000 : Rat) ≤ 1000 ∧ (16 : Nat) < 32) ∧ tuneRow 1000 16 = .setSr 32 := by decide +kernel
theorem witness_HandshakeAfterResponse :
    (State.reset.ok 2).rst = false ∧ (State.reset.ok 2).phase = .responding (.ok 2) ∧ ({ State.reset with phase := .busy } : State).phase = .busy := by decide +kernel

end Sys2Proof.Tests
end

