-- ==== Sys2Proof/Proofs/Offsets.lean ====
section
/-! PROOFS. The offset functions of 20_memory.md R60 as numbers. The model gives an offset as a byte, so each equation rests on
one fact: a channel index is below 6, and no base plus scaled index leaves the byte. -/

namespace Sys2Proof.Machine

theorem Channel.index_lt (c : Channel) : c.index < 6 := by
  cases c <;> decide

/-- The highest base is 0x50, so base plus scaled index (scale at most 2) never wraps. -/
theorem toNat_scaledOffset (base scale : Nat) (c : Channel) (hbase : base ≤ 0x50) (hscale : scale ≤ 2) :
    (BitVec.ofNat 8 (base + c.index * scale)).toNat = base + c.index * scale := by
  have hindex : c.index * scale ≤ 5 * 2 := Nat.mul_le_mul (Nat.le_of_lt_succ c.index_lt) hscale
  rw [BitVec.toNat_ofNat, Nat.mod_eq_of_lt (by omega)]

@[simp] theorem toNat_offCfg (c : Channel) : (offCfg c).toNat = 0x02 + c.index := by
  simpa [offCfg] using toNat_scaledOffset 0x02 1 c (by decide) (by decide)

@[simp] theorem toNat_offDyn (c : Channel) : (offDyn c).toNat = 0x08 + c.index := by
  simpa [offDyn] using toNat_scaledOffset 0x08 1 c (by decide) (by decide)

@[simp] theorem toNat_offTach (c : Channel) : (offTach c).toNat = 0x18 + c.index * 2 :=
  toNat_scaledOffset 0x18 2 c (by decide) (by decide)

@[simp] theorem toNat_offDutyRd_readback (c : Channel) : (offDutyRd .readback c).toNat = 0x30 + c.index * 2 :=
  toNat_scaledOffset 0x30 2 c (by decide) (by decide)

@[simp] theorem toNat_offDutySet (c : Channel) : (offDutySet c).toNat = 0x40 + c.index * 2 :=
  toNat_scaledOffset 0x40 2 c (by decide) (by decide)

/-- DUTY_RD_BASE = 0x40 reads the duty back from the register that SET.PWM writes (R60). -/
@[simp] theorem offDutyRd_dutySet (c : Channel) : offDutyRd .dutySet c = offDutySet c := rfl

@[simp] theorem toNat_offTgt (c : Channel) : (offTgt c).toNat = 0x50 + c.index * 2 :=
  toNat_scaledOffset 0x50 2 c (by decide) (by decide)

end Sys2Proof.Machine

namespace Sys2Proof
open Sys2Proof.Machine

/-- Settles O39: the equations of the offset functions, and DUTY_RD_BASE's default from the model's parameters. -/
theorem offsetMap : Obligations.OffsetMap := by
  intro c
  have hdutyRd : (offDutyRd .dutySet c).toNat = 0x40 + c.index * 2 := by
    rw [offDutyRd_dutySet, toNat_offDutySet]
  exact ⟨toNat_offCfg c, toNat_offDyn c, toNat_offTach c, toNat_offDutyRd_readback c, hdutyRd, rfl,
    toNat_offDutySet c, toNat_offTgt c⟩

end Sys2Proof
end

/-! PROOFS. The decode tests of 30_encoding.md R85. The fields of a command word are numbers by R80's layout; a word names a command
exactly when it passes tests 3 to 5; a rejected word is answered by the first test that applies; and a word that names a command on channel 0
or 7 is answered InvalidChannel by the command itself (log 1), which is the status of test 2. -/

namespace Sys2Proof

/-! The fields of the command word as numbers (R80). -/

theorem toNat_cwClass (cw : Word16) : (cwClass cw).toNat = cw.toNat / 16384 := by
  simp [cwClass, Nat.shiftRight_eq_div_pow]; omega

theorem toNat_cwFn (cw : Word16) : (cwFn cw).toNat = cw.toNat / 256 % 64 := by
  simp [cwFn, Nat.shiftRight_eq_div_pow]

theorem toNat_cwRsv (cw : Word16) : (cwRsv cw).toNat = cw.toNat / 8 % 32 := by
  simp [cwRsv, Nat.shiftRight_eq_div_pow]

theorem toNat_cwCh (cw : Word16) : (cwCh cw).toNat = cw.toNat % 8 := by
  simp [cwCh]

/-- R80's sum determines its four fields. -/
theorem fields_of_toNat {cw : Word16} {cls fn rsv ch : Nat} (hcw : cw.toNat = cls * 16384 + fn * 256 + rsv * 8 + ch)
    (hfn : fn < 64) (hrsv : rsv < 32) (hch : ch < 8) :
    (cwClass cw).toNat = cls ∧ (cwFn cw).toNat = fn ∧ (cwRsv cw).toNat = rsv ∧ (cwCh cw).toNat = ch := by
  rw [toNat_cwClass, toNat_cwFn, toNat_cwRsv, toNat_cwCh, hcw]
  omega

theorem legalChannel_eq_false {ch : BitVec 3} : legalChannel ch = false ↔ ch.toNat = 0 ∨ ch.toNat = 7 := by
  revert ch; decide

/-! Which function codes a class accepts (R82, R83), and which channel the command of a code carries. -/

theorem isSome_getOfFn (fn : Nat) (ch : BitVec 3) : (getOfFn fn ch).isSome ↔ fn ∈ Machine.acceptedFns 0 := by
  unfold getOfFn
  split <;> simp_all [Machine.acceptedFns]

theorem isSome_setOfFn (fn : Nat) (ch : BitVec 3) : (setOfFn fn ch).isSome ↔ fn ∈ Machine.acceptedFns 1 := by
  unfold setOfFn
  split <;> simp_all [Machine.acceptedFns]

theorem isSome_kernelOfFn (fn : Nat) : (kernelOfFn fn).isSome ↔ fn ∈ Machine.acceptedFns 2 := by
  unfold kernelOfFn
  split <;> simp_all [Machine.acceptedFns]

theorem channel_of_getOfFn {fn : Nat} {ch : BitVec 3} {i : Instr} (h : getOfFn fn ch = some i) : i.channel = some ch := by
  unfold getOfFn at h
  split at h <;> cases h <;> rfl

theorem channel_of_setOfFn {fn : Nat} {ch : BitVec 3} {i : Instr} (h : setOfFn fn ch = some i) : i.channel = some ch := by
  unfold setOfFn at h
  split at h <;> cases h <;> rfl

/-- A GET or SET word that names a command names it on the channel of its channel field. -/
theorem channel_of_instrOf {cw : Word16} {i : Instr} (h : instrOf cw = some i) (hclass : (cwClass cw).toNat ≠ 2) :
    i.channel = some (cwCh cw) := by
  unfold instrOf at h
  split at h
  · cases h
  · split at h
    · exact channel_of_getOfFn h
    · exact channel_of_setOfFn h
    next hkrn => exact absurd hkrn hclass
    · cases h

theorem acceptedFns_eq_nil {cls : Nat} (h0 : cls ≠ 0) (h1 : cls ≠ 1) (h2 : cls ≠ 2) : Machine.acceptedFns cls = [] :=
  match cls with
  | 0 => absurd rfl h0
  | 1 => absurd rfl h1
  | 2 => absurd rfl h2
  | _ + 3 => rfl

/-- A word names a command exactly when tests 3 to 5 of R85 let it pass. Test 1 is among them: class 3 accepts no function code. -/
theorem isSome_instrOf (cw : Word16) :
    (instrOf cw).isSome ↔ (cwRsv cw).toNat = 0 ∧ ¬((cwClass cw).toNat = 2 ∧ (cwCh cw).toNat ≠ 0) ∧
      (cwFn cw).toNat ∈ Machine.acceptedFns (cwClass cw).toNat := by
  have hrsv : cwRsv cw = 0#5 ↔ (cwRsv cw).toNat = 0 := BitVec.toNat_eq
  have hch : cwCh cw = 0#3 ↔ (cwCh cw).toNat = 0 := BitVec.toNat_eq
  rw [← hrsv, Ne, ← hch]
  unfold instrOf
  by_cases h0 : cwRsv cw = 0#5
  · have hpass : ¬ cwRsv cw ≠ 0 := not_not_intro h0
    rw [if_neg hpass]
    split
    next hget => simp [h0, hget, isSome_getOfFn]
    next hset => simp [h0, hset, isSome_setOfFn]
    next hkrn => by_cases hc : cwCh cw = 0#3 <;> simp [h0, hkrn, hc, isSome_kernelOfFn]
    next hnotGet hnotSet hnotKrn => simp [acceptedFns_eq_nil hnotGet hnotSet hnotKrn]
  · simp [h0]

/-! Decoding, test by test (R85). -/

/-- The order of the tests on the numbers of the fields. -/
theorem rejectReason_eq (cw : Word16) :
    rejectReason cw =
      if (cwClass cw).toNat = 3 then .reservedClass
      else if (cwClass cw).toNat ≠ 2 ∧ ((cwCh cw).toNat = 0 ∨ (cwCh cw).toNat = 7) then .badChannel
      else if (cwRsv cw).toNat ≠ 0 then .reservedBits
      else if (cwClass cw).toNat = 2 ∧ (cwCh cw).toNat ≠ 0 then .kernelChannel
      else .unrecognizedFn := by
  simp only [rejectReason, legalChannel_eq_false, BitVec.toNat_eq, ne_eq]
  rfl

/-- Only test 2 gives `badChannel`. -/
theorem rejectReason_ne_badChannel {cw : Word16}
    (h : (cwClass cw).toNat = 3 ∨ ¬((cwClass cw).toNat ≠ 2 ∧ ((cwCh cw).toNat = 0 ∨ (cwCh cw).toNat = 7))) :
    rejectReason cw ≠ .badChannel := by
  rw [rejectReason_eq]
  split
  · nofun
  next hclass =>
    rw [if_neg (h.resolve_left hclass)]
    split_ifs <;> nofun

theorem decode_of_instrOf_none {cw : Word16} (h : instrOf cw = none) : decode cw = .error (rejectReason cw) := by
  simp [decode, h]

theorem decode_of_instrOf_some {cw : Word16} {i : Instr} (h : instrOf cw = some i) : decode cw = .ok i := by
  simp [decode, h]

end Sys2Proof

namespace Sys2Proof.Machine

/-! The step that accepts a request (R29). -/

theorem step_of_decode_ok {s : State} {i : Instr} (h : Accepts s) (hi : decode s.req.cw = .ok i) : step s = exec i s := by
  simp [step, h.noReset, h.idle, h.valid, hi]

theorem step_of_decode_error {s : State} {r : Reject} (h : Accepts s) (hr : decode s.req.cw = .error r) :
    step s = .next (s.reject r) := by
  simp [step, h.noReset, h.idle, h.valid, hr]

/-- The command of a GET or SET answers InvalidChannel on channel 0 or 7 (R243), as its word does by test 2. -/
theorem exec_of_illegal_channel {i : Instr} {ch : BitVec 3} (s : State) (hi : i.channel = some ch)
    (hch : legalChannel ch = false) : exec i s = .next (s.accept.raise .invalidChannel) := by
  have hnone : channelOf ch = none := channelOf_eq_none.mpr hch
  cases i <;> cases hi <;> (rw [exec]; exact channelCommand_illegal s _ hnone)

/-- Test 2: a GET or SET word with channel 0 or 7 answers InvalidChannel, whether it names a command or not. -/
theorem step_of_illegal_channel {s : State} (h : Accepts s) (h3 : (cwClass s.req.cw).toNat ≠ 3)
    (h2 : (cwClass s.req.cw).toNat ≠ 2) (hch : (cwCh s.req.cw).toNat = 0 ∨ (cwCh s.req.cw).toNat = 7) :
    step s = .next (s.accept.raise .invalidChannel) := by
  cases hi : instrOf s.req.cw with
  | none =>
    have hr : rejectReason s.req.cw = .badChannel := by
      rw [rejectReason_eq, if_neg h3, if_pos ⟨h2, hch⟩]
    rw [step_of_decode_error h (decode_of_instrOf_none hi), hr]
    rfl
  | some i =>
    rw [step_of_decode_ok h (decode_of_instrOf_some hi)]
    exact exec_of_illegal_channel s (channel_of_instrOf hi h2) (legalChannel_eq_false.mpr hch)

/-- Tests 1, 3, 4 and 5 give one status: every word that names no command, other than by test 2, answers InvalidArgument. -/
theorem step_of_not_named {s : State} (h : Accepts s) (hi : ¬ (instrOf s.req.cw).isSome)
    (hr : rejectReason s.req.cw ≠ .badChannel) : step s = .next (s.accept.raise .invalidArgument) := by
  rw [step_of_decode_error h (decode_of_instrOf_none (by simpa using hi)), State.reject]
  cases hreason : rejectReason s.req.cw with
  | badChannel => exact absurd hreason hr
  | reservedClass | reservedBits | kernelChannel | unrecognizedFn => rfl

end Sys2Proof.Machine

namespace Sys2Proof
open Sys2Proof.Machine

/-- Settles O4: one branch per test of R85, each by the facts that the earlier tests leave. -/
theorem rejectedWordsAnswerByPriority : Obligations.RejectedWordsAnswerByPriority := by
  intro s cls fn rsv ch h hcw _ hfn hrsv hch
  obtain ⟨rfl, rfl, rfl, rfl⟩ := fields_of_toNat hcw hfn hrsv hch
  have hsome := isSome_instrOf s.req.cw
  have hreason := rejectReason_ne_badChannel (cw := s.req.cw)
  split
  next hclass => exact step_of_not_named h (by simp [hsome, hclass, acceptedFns]) (hreason (.inl hclass))
  next hclass =>
  split
  next hbad =>
    obtain ⟨hnotKrn, hillegal⟩ := hbad
    exact step_of_illegal_channel h hclass hnotKrn hillegal
  next hbad =>
  have hne := hreason (.inr hbad)
  split
  next hres => exact step_of_not_named h (mt hsome.mp fun ⟨hzero, _, _⟩ => hres hzero) hne
  next hres =>
  split
  next hkrn => exact step_of_not_named h (mt hsome.mp fun ⟨_, hzero, _⟩ => hzero hkrn) hne
  next hkrn =>
  split
  next hacc => exact step_of_not_named h (mt hsome.mp fun ⟨_, _, hmem⟩ => hacc hmem) hne
  next hacc =>
    obtain ⟨i, hi⟩ := Option.isSome_iff_exists.mp (hsome.mpr ⟨not_not.mp hres, hkrn, not_not.mp hacc⟩)
    have hdec : decode s.req.cw = .ok i := decode_of_instrOf_some hi
    exact ⟨i, hdec, step_of_decode_ok h hdec⟩

end Sys2Proof

/-! PROOFS. The register field codec as arithmetic (40_field_codec.md R111 to R117). A field is read by a division and written by a
multiplication, so every kernel and every round trip is an equation between naturals; the speed-range codes are the exponents of
SRSET = {2^0, …, 2^5}. -/

namespace Sys2Proof.Machine

/-! The operand forms and the bytes of a word as numbers (30_encoding.md R87, 20_memory.md R57). -/

theorem Request.toNat_wbyte (r : Request) : r.wbyte.toNat = r.wdata.toNat % 256 := by
  simp [Request.wbyte]

theorem Request.toNat_wword (r : Request) : r.wword.toNat = r.wdata.toNat % 65536 := by
  simp [Request.wword]

theorem toNat_wordOf (b0 b1 : Byte) : (wordOf b0 b1).toNat = b0.toNat * 256 + b1.toNat := by
  rw [wordOf, BitVec.toNat_append, ← Nat.shiftLeft_add_eq_or_of_lt b1.isLt, Nat.shiftLeft_eq]

theorem toNat_hiByte (w : Word16) : (hiByte w).toNat = w.toNat / 256 := by
  simp [hiByte, Nat.shiftRight_eq_div_pow]; omega

theorem toNat_loByte (w : Word16) : (loByte w).toNat = w.toNat % 256 := by
  simp [loByte]

theorem wordOf_hiByte_loByte (w : Word16) : wordOf (hiByte w) (loByte w) = w := by
  apply BitVec.eq_of_toNat_eq
  rw [toNat_wordOf, toNat_hiByte, toNat_loByte]
  omega

/-! The speed range (R111, R112). -/

theorem mem_srset_iff {sr : Nat} : sr ∈ [1, 2, 4, 8, 16, 32] ↔ ∃ k ≤ 5, sr = 2 ^ k := by
  constructor
  · intro hmem
    have hall : ∀ n ∈ [1, 2, 4, 8, 16, 32], ∃ k ≤ 5, n = 2 ^ k := by decide
    exact hall sr hmem
  · rintro ⟨k, hk, rfl⟩
    interval_cases k <;> decide

theorem decSR_eq (u : SrUnmatched) (b : Byte) :
    decSR u b = if b.toNat / 32 ≤ 5 then .ok (2 ^ (b.toNat / 32))
      else if u = .alias32 then .ok 32 else .error .unrecognizedEncoding := by
  have hcode : (b.extractLsb' 5 3).toNat = b.toNat / 32 := by
    simp [Nat.shiftRight_eq_div_pow]; omega
  unfold decSR
  rw [hcode]
  cases u <;> rfl

theorem encSR_two_pow {k : Nat} (hk : k ≤ 5) : encSR (2 ^ k) = .ok (BitVec.ofNat 3 k) := by
  interval_cases k <;> rfl

theorem encSR_of_not_mem {sr : Nat} (hsr : sr ∉ [1, 2, 4, 8, 16, 32]) : encSR sr = .error .invalidArgument := by
  unfold encSR
  split
  case h_7 => rfl
  all_goals exact absurd (by decide) hsr

theorem toNat_srCode {k : Nat} (hk : k ≤ 5) : (BitVec.ofNat 3 k).toNat = k := by
  rw [BitVec.toNat_ofNat, Nat.mod_eq_of_lt (by omega)]

/-- R112's law: the code in bits 7:5 decodes to its speed range, over any bits 4:0. -/
theorem decSR_code_append {k : Nat} (hk : k ≤ 5) (u : SrUnmatched) (low : BitVec 5) :
    decSR u (BitVec.ofNat 3 k ++ low) = .ok (2 ^ k) := by
  have hbyte : (BitVec.ofNat 3 k ++ low).toNat / 32 = k := by
    rw [BitVec.toNat_append, ← Nat.shiftLeft_add_eq_or_of_lt low.isLt, Nat.shiftLeft_eq, toNat_srCode hk]
    omega
  rw [decSR_eq, hbyte, if_pos hk]

/-! Duty, tachometer and mode (R113 to R117). -/

theorem toNat_decMode (b : Byte) : (decMode b).toNat = b.toNat / 128 := by
  rw [decMode, BitVec.getLsbD, Nat.toNat_testBit]
  omega

theorem toNat_fieldWord {v n : Nat} (h : v * 2 ^ n < 2 ^ 16) : (BitVec.ofNat 16 v <<< n).toNat = v * 2 ^ n := by
  rw [BitVec.toNat_shiftLeft, Nat.shiftLeft_eq, BitVec.toNat_ofNat, Nat.mod_mul_mod, Nat.mod_eq_of_lt h]

theorem encDuty_of_le {v : Nat} (hv : v ≤ 511) : ∃ w, encDuty v = .ok w ∧ w.toNat = v * 128 :=
  ⟨_, if_neg (by omega), toNat_fieldWord (by omega)⟩

theorem encDuty_of_gt {v : Nat} (hv : 511 < v) : encDuty v = .error .invalidArgument := if_pos hv

theorem encTach_of_le {t : Nat} (ht : t ≤ 2047) : ∃ w, encTach t = .ok w ∧ w.toNat = t * 32 :=
  ⟨_, if_neg (by omega), toNat_fieldWord (by omega)⟩

theorem encTach_of_gt {t : Nat} (ht : 2047 < t) : encTach t = .error .invalidArgument := if_pos ht

/-! The field kernels (R120 to R126). -/

theorem exec_kdecMode (s : State) :
    exec .kdecMode s = .next (s.accept.respond (.ok ((s.req.wdata.toNat / 128 % 2 : Nat) : Rat))) := by
  have hbit : s.req.wdata.toNat % 256 / 128 = s.req.wdata.toNat / 128 % 2 := by omega
  rw [exec, execKdecMode, kernelCommand_next, okNat, toNat_decMode, Request.toNat_wbyte, hbit]

theorem exec_kdecSr (s : State) :
    exec .kdecSr s = .next (s.accept.respond (
      if s.req.wdata.toNat / 32 % 8 ≤ 5 then .ok ((2 ^ (s.req.wdata.toNat / 32 % 8) : Nat) : Rat)
      else if s.params.srUnmatched = .alias32 then .ok 32 else .error .unrecognizedEncoding)) := by
  have hcode : s.req.wdata.toNat % 256 / 32 = s.req.wdata.toNat / 32 % 8 := by omega
  rw [exec, execKdecSr, kernelCommand_next, decSR_eq, Request.toNat_wbyte, hcode]
  split_ifs <;> rfl

theorem exec_kdecDuty (s : State) :
    exec .kdecDuty s = .next (s.accept.respond (.ok ((s.req.wdata.toNat % 65536 / 128 : Nat) : Rat))) := by
  rw [exec, execKdecDuty, kernelCommand_next, okNat, toNat_decDuty, Request.toNat_wword]

theorem exec_kdecTach (s : State) :
    exec .kdecTach s = .next (s.accept.respond (.ok ((s.req.wdata.toNat % 65536 / 32 : Nat) : Rat))) := by
  rw [exec, execKdecTach, kernelCommand_next, okNat, toNat_decTach, Request.toNat_wword]

theorem exec_kencSr (s : State) :
    exec .kencSr s = .next (s.accept.respond (
      if s.req.wdata.toNat ∈ [1, 2, 4, 8, 16, 32] then .ok ((Nat.log2 s.req.wdata.toNat : Nat) : Rat)
      else .error .invalidArgument)) := by
  rw [exec, execKencSr, kernelCommand_next, Request.wnum]
  by_cases hmem : s.req.wdata.toNat ∈ [1, 2, 4, 8, 16, 32]
  · rw [if_pos hmem]
    obtain ⟨k, hk, hpow⟩ := mem_srset_iff.mp hmem
    simp only [hpow, encSR_two_pow hk, toNat_srCode hk, Nat.log2_two_pow, okNat]
  · rw [if_neg hmem, encSR_of_not_mem hmem]

theorem exec_kencDuty (s : State) :
    exec .kencDuty s = .next (s.accept.respond (
      if s.req.wdata.toNat ≤ 511 then .ok ((s.req.wdata.toNat * 128 : Nat) : Rat) else .error .invalidArgument)) := by
  rw [exec, execKencDuty, kernelCommand_next, Request.wnum]
  by_cases hle : s.req.wdata.toNat ≤ 511
  · obtain ⟨w, henc, hw⟩ := encDuty_of_le hle
    rw [if_pos hle, henc, ← hw]
    rfl
  · rw [if_neg hle, encDuty_of_gt (not_le.mp hle)]

theorem exec_kencTach (s : State) :
    exec .kencTach s = .next (s.accept.respond (
      if s.req.wdata.toNat ≤ 2047 then .ok ((s.req.wdata.toNat * 32 : Nat) : Rat) else .error .invalidArgument)) := by
  rw [exec, execKencTach, kernelCommand_next, Request.wnum]
  by_cases hle : s.req.wdata.toNat ≤ 2047
  · obtain ⟨w, henc, hw⟩ := encTach_of_le hle
    rw [if_pos hle, henc, ← hw]
    rfl
  · rw [if_neg hle, encTach_of_gt (not_le.mp hle)]

/-- The three bits SET.SR writes, bit 7 first, spell the code (R124). -/
theorem code_of_srWrites {c : Channel} {k : Nat} {b7 b6 b5 : Bool} (hk : k ≤ 5)
    (h : srWrites c k = [.bitWrite (offDyn c) 7 b7, .bitWrite (offDyn c) 6 b6, .bitWrite (offDyn c) 5 b5]) :
    4 * b7.toNat + 2 * b6.toNat + b5.toNat = k := by
  simp only [srWrites, List.cons.injEq, BusOp.bitWrite.injEq, true_and, and_true] at h
  obtain ⟨rfl, rfl, rfl⟩ := h
  simp only [Nat.toNat_testBit]
  omega

end Sys2Proof.Machine

namespace Sys2Proof
open Sys2Proof.Machine

/-- Settles O42: SRSET is the powers of two up to 2^5, and the code of a power is its exponent. -/
theorem speedRangeCodec : Obligations.SpeedRangeCodec := by
  refine ⟨fun sr hmem => ?_, fun sr => encSR_of_not_mem⟩
  obtain ⟨k, hk, rfl⟩ := mem_srset_iff.mp hmem
  refine ⟨BitVec.ofNat 3 k, encSR_two_pow hk, ?_, ?_, decSR_code_append hk⟩
  · rw [toNat_srCode hk, Nat.log2_two_pow]
  · rwa [toNat_srCode hk]

/-- Settles O43: a field is a quotient of the big-endian word, and an encoded word is put together again from its bytes. -/
theorem dutyAndTachCodecs : Obligations.DutyAndTachCodecs := by
  refine ⟨fun b0 b1 => ?_, fun v hv => ?_, fun v => encDuty_of_gt, fun t ht => ?_, fun t => encTach_of_gt⟩
  · rw [toNat_decDuty, toNat_decTach, toNat_wordOf]
    omega
  · obtain ⟨w, henc, hw⟩ := encDuty_of_le hv
    refine ⟨w, henc, hw, ?_⟩
    rw [wordOf_hiByte_loByte, toNat_hiByte, toNat_loByte, toNat_decDuty, hw]
    omega
  · obtain ⟨w, henc, hw⟩ := encTach_of_le ht
    refine ⟨w, henc, hw, ?_⟩
    rw [wordOf_hiByte_loByte, toNat_hiByte, toNat_loByte, toNat_decTach, hw]
    omega

/-- Settles O20: each kernel's field is a quotient of WDATA. -/
theorem fieldDecodeKernels : Obligations.FieldDecodeKernels :=
  ⟨by decide, fun s => ⟨exec_kdecMode s, exec_kdecSr s, exec_kdecDuty s, exec_kdecTach s⟩⟩

/-- Settles O21: each kernel's answer by the range of WDATA; the register bits spell the code that KENC.SR answers. -/
theorem fieldEncodeKernels : Obligations.FieldEncodeKernels := by
  refine ⟨by decide, fun s => ⟨exec_kencSr s, exec_kencDuty s, exec_kencTach s⟩, ?_⟩
  intro s c k b7 b6 b5 hwrites hk hw
  rw [hw, Nat.log2_two_pow]
  exact code_of_srWrites hk hwrites

end Sys2Proof

/-! PROOFS. The speed-target identity (40_field_codec.md R118, R119, R127, R128). With N = 60 * sr * 8192 and D = ppr * rpm the encoder's
target is N div D, so its legal range is D ≤ N < 2047 * D, and the decoder's N / (ppr * (N div D)) is at least rpm because D * (N div D) ≤ N. -/

namespace Sys2Proof.Machine

theorem tgtEnc_zero (sr ppr : Nat) : tgtEnc 0 sr ppr = .ok 2047 := rfl

theorem tgtEnc_of_ne_zero {rpm : Nat} (hrpm : rpm ≠ 0) (sr ppr : Nat) :
    tgtEnc rpm sr ppr =
      if 1 ≤ 60 * sr * 8192 / (ppr * rpm) ∧ 60 * sr * 8192 / (ppr * rpm) ≤ 2046 then .ok (60 * sr * 8192 / (ppr * rpm))
      else .error .invalidArgument :=
  if_neg hrpm

theorem tgtEnc_eq_ok_iff {rpm sr ppr tg : Nat} (hrpm : rpm ≠ 0) :
    tgtEnc rpm sr ppr = .ok tg ↔ tg = 60 * sr * 8192 / (ppr * rpm) ∧ 1 ≤ tg ∧ tg ≤ 2046 := by
  rw [tgtEnc_of_ne_zero hrpm]
  split
  next hlegal =>
    rw [Except.ok.injEq]
    exact ⟨by rintro rfl; exact ⟨rfl, hlegal⟩, fun ⟨htg, _⟩ => htg.symm⟩
  next hillegal => exact ⟨nofun, by rintro ⟨rfl, hlegal⟩; exact absurd hlegal hillegal⟩

/-- The legal range of RPM, before the division by ppr. -/
theorem exists_tgtEnc_ok_iff {rpm sr ppr : Nat} (hrpm : rpm ≠ 0) (hppr : 1 ≤ ppr) :
    (∃ tg, tgtEnc rpm sr ppr = .ok tg) ↔ 491520 * sr < rpm * (2047 * ppr) ∧ rpm * ppr ≤ 491520 * sr := by
  have hden : 0 < ppr * rpm := Nat.mul_pos hppr (Nat.pos_of_ne_zero hrpm)
  have hlow : 1 ≤ 60 * sr * 8192 / (ppr * rpm) ↔ rpm * ppr ≤ 491520 * sr := by
    rw [Nat.le_div_iff_mul_le hden, one_mul, mul_comm ppr rpm]
    omega
  have hhigh : 60 * sr * 8192 / (ppr * rpm) ≤ 2046 ↔ 491520 * sr < rpm * (2047 * ppr) := by
    have hprod : rpm * (2047 * ppr) = 2047 * (ppr * rpm) := by ring
    rw [← Nat.lt_succ_iff, Nat.div_lt_iff_lt_mul hden, hprod]
    omega
  simp only [tgtEnc_eq_ok_iff hrpm, exists_eq_left, hlow, hhigh]
  exact and_comm

theorem tgtDec_noSignal (m : TgtSentinelDecode) {t : BitVec 11} (ht : t.toNat = 0) (sr ppr : Nat) :
    tgtDec m t sr ppr = .error .noSignal := by
  simp [tgtDec, ht, tachSat]

theorem tgtDec_sentinel_zero {t : BitVec 11} (ht : t.toNat = 2047) (sr ppr : Nat) : tgtDec .zero t sr ppr = .ok 0 :=
  if_pos ⟨ht, rfl⟩

theorem tgtDec_value {m : TgtSentinelDecode} {t : BitVec 11} (ht : t.toNat ≠ 0) (hm : ¬(t.toNat = 2047 ∧ m = .zero))
    (sr ppr : Nat) : tgtDec m t sr ppr = .ok (((60 * sr * 8192 : Nat) : Rat) / ((ppr * t.toNat : Nat) : Rat)) :=
  (if_neg hm).trans (if_neg ht)

/-- R119's law on the identity: the truncated target decodes to at least the RPM it was computed from, exactly when the division is. -/
theorem le_decoded_target {num ppr rpm : Nat} (hppr : 1 ≤ ppr) (htg : 1 ≤ num / (ppr * rpm)) :
    (rpm : Rat) ≤ (num : Rat) / ((ppr * (num / (ppr * rpm)) : Nat) : Rat) ∧
      ((num : Rat) / ((ppr * (num / (ppr * rpm)) : Nat) : Rat) = (rpm : Rat) ↔ ppr * rpm ∣ num) := by
  have hden : (0 : Rat) < ((ppr * (num / (ppr * rpm)) : Nat) : Rat) := Nat.cast_pos.mpr (Nat.mul_pos hppr htg)
  have hassoc : rpm * (ppr * (num / (ppr * rpm))) = ppr * rpm * (num / (ppr * rpm)) := by ring
  constructor
  · rw [le_div_iff₀ hden, ← Nat.cast_mul, Nat.cast_le, hassoc]
    exact Nat.mul_div_le num (ppr * rpm)
  · rw [div_eq_iff hden.ne', ← Nat.cast_mul, Nat.cast_inj, hassoc, eq_comm]
    exact ⟨Dvd.intro _, Nat.mul_div_cancel'⟩

/-! The target kernels (R127, R128). -/

/-- The operand check, as the rules word its failure. -/
theorem legalTgtOperands_eq_false {r : Request} :
    legalTgtOperands r = false ↔ r.ksr.toNat ∉ [1, 2, 4, 8, 16, 32] ∨ r.kppr.toInt < 1 := by
  simp only [legalTgtOperands, legalSr, legalCal, Bool.and_eq_false_iff, List.contains_eq_mem, decide_eq_false_iff_not, not_le]

theorem legalTgtOperands_eq_true {r : Request} :
    legalTgtOperands r = true ↔ ¬(r.ksr.toNat ∉ [1, 2, 4, 8, 16, 32] ∨ r.kppr.toInt < 1) := by
  rw [← legalTgtOperands_eq_false, Bool.not_eq_false]

theorem exec_ktgtEnc (s : State) :
    exec .ktgtEnc s = .next (s.accept.respond (
      if s.req.ksr.toNat ∉ [1, 2, 4, 8, 16, 32] ∨ s.req.kppr.toInt < 1 then .error .invalidArgument
      else if s.req.wdata.toNat = 0 then .ok 2047
      else if 1 ≤ 60 * s.req.ksr.toNat * 8192 / (s.req.kppr.toNat * s.req.wdata.toNat) ∧
          60 * s.req.ksr.toNat * 8192 / (s.req.kppr.toNat * s.req.wdata.toNat) ≤ 2046
        then .ok ((60 * s.req.ksr.toNat * 8192 / (s.req.kppr.toNat * s.req.wdata.toNat) : Nat) : Rat)
      else .error .invalidArgument)) := by
  rw [exec, execKtgtEnc, kernelCommand_next, Request.wnum]
  split
  next hlegal =>
    rw [if_neg (legalTgtOperands_eq_true.mp hlegal)]
    by_cases hrpm : s.req.wdata.toNat = 0
    · rw [if_pos hrpm, hrpm, tgtEnc_zero]
      rfl
    · rw [if_neg hrpm, tgtEnc_of_ne_zero hrpm]
      split_ifs <;> rfl
  next hillegal => rw [if_pos (legalTgtOperands_eq_false.mp (by simpa using hillegal))]

theorem exec_ktgtDec (s : State) :
    exec .ktgtDec s = .next (s.accept.respond (
      if s.req.ksr.toNat ∉ [1, 2, 4, 8, 16, 32] ∨ s.req.kppr.toInt < 1 then .error .invalidArgument
      else if s.req.kcount.toNat = 0 then .error .noSignal
      else if s.req.kcount.toNat = 2047 ∧ s.params.tgtSentinelDecode = .zero then .ok 0
      else .ok (((60 * s.req.ksr.toNat * 8192 : Nat) : Rat) / ((s.req.kppr.toNat * s.req.kcount.toNat : Nat) : Rat)))) := by
  rw [exec, execKtgtDec, kernelCommand_next]
  split
  next hlegal =>
    rw [if_neg (legalTgtOperands_eq_true.mp hlegal)]
    split_ifs with hzero hsentinel
    · rw [tgtDec_noSignal _ hzero]
    · obtain ⟨hcount, hmode⟩ := hsentinel
      rw [hmode, tgtDec_sentinel_zero hcount]
    · rw [tgtDec_value hzero hsentinel]
  next hillegal => rw [if_pos (legalTgtOperands_eq_false.mp (by simpa using hillegal))]

end Sys2Proof.Machine

namespace Sys2Proof
open Sys2Proof.Machine

/-- Settles O22: operand check first, then the identity. -/
theorem targetKernelsAnswer : Obligations.TargetKernelsAnswer :=
  ⟨by decide, fun s => ⟨exec_ktgtEnc s, exec_ktgtDec s⟩⟩

/-- Settles O44: the encoder is the truncated quotient, and the two bounds of a quotient are the two bounds of RPM. -/
theorem targetEncodingRange : Obligations.TargetEncodingRange := by
  intro rpm sr ppr hrpm hsr hppr hppr31
  have hsr32 : sr ≤ 32 := by
    obtain ⟨k, hk, rfl⟩ := mem_srset_iff.mp hsr
    exact Nat.pow_le_pow_right (by decide) hk
  have hpprPos : (0 : Rat) < ((ppr : Nat) : Rat) := Nat.cast_pos.mpr hppr
  have hprodPos : (0 : Rat) < ((2047 * ppr : Nat) : Rat) := Nat.cast_pos.mpr (by omega)
  have hprod : ppr * rpm < 2 ^ 63 :=
    calc ppr * rpm < 2 ^ 31 * 2 ^ 32 := Nat.mul_lt_mul'' hppr31 hrpm
      _ = 2 ^ 63 := by norm_num
  refine ⟨by omega, hprod, by rintro rfl; exact tgtEnc_zero sr ppr, fun hne tg htg => ⟨fun h1 h2 => ?_, fun hout => ?_⟩, fun hne => ?_⟩
  · exact (tgtEnc_eq_ok_iff hne).mpr ⟨htg, h1, h2⟩
  · rw [tgtEnc_of_ne_zero hne, ← htg, if_neg (by omega)]
  · rw [exists_tgtEnc_ok_iff hne hppr, div_lt_iff₀ hprodPos, le_div_iff₀ hpprPos]
    norm_cast

/-- Settles O45: the decoder by its three cases; the law is `le_decoded_target` at the truncated target, which is no sentinel. -/
theorem targetRoundTrip : Obligations.TargetRoundTrip := by
  intro sr ppr _ hppr _
  have hnum : 60 * sr * 8192 = 491520 * sr := by omega
  refine ⟨tgtDec_sentinel_zero rfl sr ppr, ?_, fun m => tgtDec_noSignal m rfl sr ppr, fun m t h0 h1 => ?_, ?_⟩
  · rw [tgtDec_value (by decide) (by decide), hnum]
    rfl
  · rw [Ne, BitVec.toNat_eq] at h0 h1
    exact tgtDec_value h0 (fun ⟨ht, _⟩ => h1 ht) sr ppr
  · intro m rpm tg hrpm henc
    obtain ⟨rfl, hlow, hhigh⟩ := (tgtEnc_eq_ok_iff (by omega)).mp henc
    have htoNat : (BitVec.ofNat 11 (60 * sr * 8192 / (ppr * rpm))).toNat = 60 * sr * 8192 / (ppr * rpm) := by
      rw [BitVec.toNat_ofNat, Nat.mod_eq_of_lt (by omega)]
    refine ⟨_, tgtDec_value (by omega) (by omega) sr ppr, ?_⟩
    rw [htoNat, ← hnum]
    exact le_decoded_target hppr hlow

end Sys2Proof

/-! PROOFS. The conversion kernels (41_unit_conversion.md R132 to R152). Every rate is a constant of its tag times the pulses per second,
divided by the calibration value the tag reads (`rateValue_eq`); a kernel judges its operands before the count (`exec_rateKernel`), and the
three groups of tags differ in the calibration operand they judge. -/

namespace Sys2Proof.Machine

/-! The operand checks, as the rules word their failure (R133, 30_encoding.md R88). -/

theorem legalSr_eq_true {n : Nat} : legalSr n = true ↔ n ∈ [1, 2, 4, 8, 16, 32] := by
  rw [legalSr, List.contains_iff_mem]

theorem legalSr_eq_false {n : Nat} : legalSr n = false ↔ n ∉ [1, 2, 4, 8, 16, 32] := by
  rw [← legalSr_eq_true, Bool.not_eq_true]

theorem legalCal_eq_true {v : Word32} : legalCal v = true ↔ 1 ≤ v.toInt := decide_eq_true_iff

theorem legalCal_eq_false {v : Word32} : legalCal v = false ↔ v.toInt < 1 := by
  rw [← Bool.not_eq_true, legalCal_eq_true, not_le]

theorem one_le_toNat_of_one_le_toInt {v : Word32} (hv : 1 ≤ v.toInt) : 1 ≤ v.toNat := by
  rw [BitVec.toInt_eq_toNat_cond] at hv
  omega

theorem legalRateOperands_eq_true {tag : RateTag} {r : Request} :
    legalRateOperands tag r = true ↔
      r.ksr.toNat ∈ [1, 2, 4, 8, 16, 32] ∧ (readsPpr tag = true → 1 ≤ r.kppr.toInt) ∧ (readsPpm3 tag = true → 1 ≤ r.kppm3.toInt) := by
  simp only [legalRateOperands, Bool.and_eq_true, Bool.or_eq_true, Bool.not_eq_true', legalSr_eq_true, legalCal_eq_true, and_assoc,
    ← Bool.not_eq_true, ← imp_iff_not_or]

/-- A pulse rate reads the speed range alone. -/
theorem legalRateOperands_pulse {tag : RateTag} {r : Request} (hppr : readsPpr tag = false) (hppm3 : readsPpm3 tag = false) :
    legalRateOperands tag r = false ↔ r.ksr.toNat ∉ [1, 2, 4, 8, 16, 32] := by
  simp [legalRateOperands, hppr, hppm3, legalSr_eq_false]

theorem legalRateOperands_revolution {tag : RateTag} {r : Request} (hppr : readsPpr tag = true) (hppm3 : readsPpm3 tag = false) :
    legalRateOperands tag r = false ↔ r.ksr.toNat ∉ [1, 2, 4, 8, 16, 32] ∨ r.kppr.toInt < 1 := by
  simp only [legalRateOperands, hppr, hppm3, Bool.not_true, Bool.false_or, Bool.not_false, Bool.true_or, Bool.and_true,
    Bool.and_eq_false_iff, legalSr_eq_false, legalCal_eq_false]

theorem legalRateOperands_flow {tag : RateTag} {r : Request} (hppr : readsPpr tag = false) (hppm3 : readsPpm3 tag = true) :
    legalRateOperands tag r = false ↔ r.ksr.toNat ∉ [1, 2, 4, 8, 16, 32] ∨ r.kppm3.toInt < 1 := by
  simp only [legalRateOperands, hppr, hppm3, Bool.not_true, Bool.false_or, Bool.not_false, Bool.true_or, Bool.and_true,
    Bool.and_eq_false_iff, legalSr_eq_false, legalCal_eq_false]

/-! The value of a rate (R132, R134, R138 to R152). -/

theorem conv_noSignal {count : BitVec 11} (hcount : count.toNat = 0 ∨ count.toNat = 2047) (tag : RateTag) (sr ppr ppm3 : Nat) :
    conv tag count sr ppr ppm3 = .error .noSignal := by
  rcases conv_cases tag count sr ppr ppm3 with ⟨_, hconv⟩ | ⟨h0, h1, _⟩
  · exact hconv
  · exact absurd hcount (not_or.mpr ⟨h0, h1⟩)

theorem conv_signal {count : BitVec 11} (hcount : ¬(count.toNat = 0 ∨ count.toNat = 2047)) (tag : RateTag) (sr ppr ppm3 : Nat) :
    conv tag count sr ppr ppm3 = .ok (rateValue tag (((sr * 8192 : Nat) : Rat) / (count.toNat : Rat)) ppr ppm3) := by
  rcases conv_cases tag count sr ppr ppm3 with ⟨hstalled, _⟩ | ⟨_, _, hconv⟩
  · exact absurd hstalled hcount
  · exact hconv

/-- The constant of a tag: its unit of time, and litres or gallons for cubic metres. -/
def rateFactor : RateTag → Rat
  | .pps | .rps | .m3ps => 1
  | .ppm | .rpm | .m3pm => 60
  | .pph | .rph | .m3ph => 3600
  | .lps => 1000
  | .lpm => 60 * 1000
  | .lph => 3600 * 1000
  | .gps => 125000000000 / 473176473
  | .gpm => 60 * 125000000000 / 473176473
  | .gph => 3600 * 125000000000 / 473176473

/-- The calibration value a tag divides by, 1 where it reads none. -/
def rateCalibration (tag : RateTag) (ppr ppm3 : Nat) : Nat :=
  if readsPpr tag then ppr else if readsPpm3 tag then ppm3 else 1

/-- All fifteen rules have one form. (A calibration value of 0 is no exception: both sides are then 0, log 18.) -/
theorem rateValue_eq (tag : RateTag) (p : Rat) (ppr ppm3 : Nat) :
    rateValue tag p ppr ppm3 = rateFactor tag * p / (rateCalibration tag ppr ppm3 : Rat) := by
  cases tag <;>
    simp only [rateValue, rateFactor, rateCalibration, readsPpr, readsPpm3, pulsesPerLitre, pulsesPerGallon, gal_eq, if_true,
      Bool.false_eq_true, if_false, Nat.cast_one] <;>
    ring

/-- R142's identity: RPM of a count is the target decoding of it. -/
theorem conv_rpm_eq_tgtDec (d : TgtSentinelDecode) {t : BitVec 11} (h0 : t.toNat ≠ 0) (h1 : t.toNat ≠ 2047) (sr ppr ppm3 : Nat) :
    conv .rpm t sr ppr ppm3 = tgtDec d t sr ppr := by
  rw [conv_signal (not_or.mpr ⟨h0, h1⟩), tgtDec_value h0 fun ⟨ht, _⟩ => h1 ht, Except.ok.injEq, rateValue]
  push_cast
  ring

/-! What the kernels answer. -/

theorem exec_kernelInstr (tag : RateTag) (s : State) :
    exec tag.kernelInstr s = .next (s.accept.respond (rateKernel tag s.req)) := by
  cases tag <;> rfl

/-- Operands first, then the count, then the value (R133). -/
theorem exec_rateKernel {tag : RateTag} {s : State} {illegal : Prop} [Decidable illegal] {v : Rat}
    (hillegal : legalRateOperands tag s.req = false ↔ illegal)
    (hv : rateValue tag (((s.req.ksr.toNat * 8192 : Nat) : Rat) / (s.req.kcount.toNat : Rat)) s.req.kppr.toNat s.req.kppm3.toNat = v) :
    exec tag.kernelInstr s = .next (s.accept.respond (
      if illegal then .error .invalidArgument
      else if s.req.kcount.toNat = 0 ∨ s.req.kcount.toNat = 2047 then .error .noSignal else .ok v)) := by
  rw [exec_kernelInstr, rateKernel]
  cases hlegal : legalRateOperands tag s.req with
  | false => rw [if_pos (hillegal.mp hlegal), if_neg Bool.false_ne_true]
  | true =>
    have hpass : ¬ illegal := fun hill => by simp [hillegal.mpr hill] at hlegal
    rw [if_pos rfl, if_neg hpass]
    split
    next hcount => rw [conv_noSignal hcount]
    next hcount => rw [conv_signal hcount, hv]

/-- KCONV.SPD (R135). -/
theorem exec_kconvSpd (s : State) :
    exec .kconvSpd s = .next (s.accept.respond (
      if 511 < s.req.wdata.toNat then .error .invalidArgument else .ok (((s.req.wdata.toNat * 100 : Nat) : Rat) / ((511 : Nat) : Rat)))) := by
  rw [exec, execKconvSpd, kernelCommand_next, percentOf, Request.wnum]
  push_cast
  rfl

/-- A kernel whose one operand is KPPM3 (R136, R137): the check, then a value. -/
theorem ite_legalCal_kppm3 (r : Request) (v : Rat) :
    (if legalCal r.kppm3 then .ok v else .error .invalidArgument : Result) =
      if r.kppm3.toInt < 1 then .error .invalidArgument else .ok v := by
  simp only [legalCal_eq_true, ← not_lt, ite_not]

theorem exec_kconvPpl (s : State) :
    exec .kconvPpl s = .next (s.accept.respond (
      if s.req.kppm3.toInt < 1 then .error .invalidArgument else .ok ((s.req.kppm3.toNat : Rat) / ((1000 : Nat) : Rat)))) := by
  rw [exec, execKconvPpl, kernelCommand_next, ite_legalCal_kppm3, pulsesPerLitre, Nat.cast_ofNat]

theorem exec_kconvPpg (s : State) :
    exec .kconvPpg s = .next (s.accept.respond (
      if s.req.kppm3.toInt < 1 then .error .invalidArgument
      else .ok (((s.req.kppm3.toNat * 473176473 : Nat) : Rat) / ((125000000000 : Nat) : Rat)))) := by
  rw [exec, execKconvPpg, kernelCommand_next, ite_legalCal_kppm3, pulsesPerGallon, gal_eq, ← mul_div_assoc]
  push_cast
  rfl

end Sys2Proof.Machine

namespace Sys2Proof
open Sys2Proof.Machine

/-- Settles O23: the three kernels of one operand. -/
theorem scalarConversionKernels : Obligations.ScalarConversionKernels :=
  ⟨by decide, fun s => ⟨exec_kconvSpd s, exec_kconvPpl s, exec_kconvPpg s⟩⟩

/-- Settles O24: the operand check of each group, then the value of each rule as one fraction. -/
theorem pulseAndRevolutionKernels : Obligations.PulseAndRevolutionKernels := by
  refine ⟨by decide, ?_, fun d t sr ppr ppm3 h0 h1 => ?_⟩
  · rintro s _ _ _ _ rfl rfl rfl rfl
    refine ⟨exec_rateKernel (tag := .pps) (legalRateOperands_pulse rfl rfl) rfl,
      exec_rateKernel (tag := .ppm) (legalRateOperands_pulse rfl rfl) ?_,
      exec_rateKernel (tag := .pph) (legalRateOperands_pulse rfl rfl) ?_,
      exec_rateKernel (tag := .rps) (legalRateOperands_revolution rfl rfl) ?_,
      exec_rateKernel (tag := .rpm) (legalRateOperands_revolution rfl rfl) ?_,
      exec_rateKernel (tag := .rph) (legalRateOperands_revolution rfl rfl) ?_⟩
    all_goals
      simp only [rateValue]
      push_cast
      ring
  · rw [Ne, BitVec.toNat_eq] at h0 h1
    exact conv_rpm_eq_tgtDec d h0 h1 sr ppr ppm3

/-- Settles O25: one operand check, then the value of each rule as one fraction; the gallon's 473176473 / 125000000000 divides out. -/
theorem flowKernels : Obligations.FlowKernels := by
  refine ⟨by decide, ?_⟩
  rintro s _ _ _ _ rfl rfl rfl rfl
  refine ⟨exec_rateKernel (tag := .m3ps) (legalRateOperands_flow rfl rfl) ?_,
    exec_rateKernel (tag := .m3pm) (legalRateOperands_flow rfl rfl) ?_,
    exec_rateKernel (tag := .m3ph) (legalRateOperands_flow rfl rfl) ?_,
    exec_rateKernel (tag := .lps) (legalRateOperands_flow rfl rfl) ?_,
    exec_rateKernel (tag := .lpm) (legalRateOperands_flow rfl rfl) ?_,
    exec_rateKernel (tag := .lph) (legalRateOperands_flow rfl rfl) ?_,
    exec_rateKernel (tag := .gps) (legalRateOperands_flow rfl rfl) ?_,
    exec_rateKernel (tag := .gpm) (legalRateOperands_flow rfl rfl) ?_,
    exec_rateKernel (tag := .gph) (legalRateOperands_flow rfl rfl) ?_⟩
  all_goals
    simp only [rateValue, pulsesPerLitre, pulsesPerGallon, gal_eq]
    push_cast
    ring

end Sys2Proof

/-! PROOFS. The ranges of the rates (41_unit_conversion.md R154). A rate is at most its tag's constant times the largest pulses per second,
32 * 8192 / 1, because the calibration value it divides by is at least 1. -/

namespace Sys2Proof.Machine

/-! The range of a rate. -/

theorem one_le_of_mem_srset {sr : Nat} (hsr : sr ∈ [1, 2, 4, 8, 16, 32]) : 1 ≤ sr := by
  obtain ⟨k, _, rfl⟩ := mem_srset_iff.mp hsr
  exact Nat.one_le_two_pow

theorem le_of_mem_srset {sr : Nat} (hsr : sr ∈ [1, 2, 4, 8, 16, 32]) : sr ≤ 32 := by
  obtain ⟨k, hk, rfl⟩ := mem_srset_iff.mp hsr
  exact Nat.pow_le_pow_right (by decide) hk

theorem rateFactor_pos (tag : RateTag) : 0 < rateFactor tag := by
  cases tag <;> norm_num [rateFactor]

/-- The largest constant is that of litres per hour. -/
theorem rateFactor_le (tag : RateTag) : rateFactor tag ≤ 3600000 := by
  cases tag <;> norm_num [rateFactor]

theorem one_le_rateCalibration {tag : RateTag} {ppr ppm3 : Nat} (hppr : readsPpr tag = true → 1 ≤ ppr)
    (hppm3 : readsPpm3 tag = true → 1 ≤ ppm3) : 1 ≤ rateCalibration tag ppr ppm3 := by
  unfold rateCalibration
  split_ifs with hreadsPpr hreadsPpm3
  · exact hppr hreadsPpr
  · exact hppm3 hreadsPpm3
  · exact le_rfl

/-- Pps(2046, 1) to Pps(1, 32), R132's range. -/
theorem pulses_le {sr count : Nat} (hsr : sr ≤ 32) (hcount : 1 ≤ count) : ((sr * 8192 : Nat) : Rat) / (count : Rat) ≤ 262144 :=
  calc ((sr * 8192 : Nat) : Rat) / (count : Rat) ≤ ((sr * 8192 : Nat) : Rat) := div_le_self (Nat.cast_nonneg _) (by exact_mod_cast hcount)
    _ ≤ 262144 := by exact_mod_cast (by omega : sr * 8192 ≤ 262144)

theorem le_pulses {sr count : Nat} (hsr : 1 ≤ sr) (hpos : 1 ≤ count) (hcount : count ≤ 2046) :
    4096 / 1023 ≤ ((sr * 8192 : Nat) : Rat) / (count : Rat) := by
  rw [div_le_div_iff₀ (by norm_num) (by exact_mod_cast hpos)]
  exact_mod_cast (by omega : 4096 * count ≤ sr * 8192 * 1023)

theorem rateValue_range (tag : RateTag) {p : Rat} {ppr ppm3 : Nat} (hpos : 0 < p) (hp : p ≤ 262144)
    (hcal : 1 ≤ rateCalibration tag ppr ppm3) :
    0 < rateValue tag p ppr ppm3 ∧ rateValue tag p ppr ppm3 ≤ rateFactor tag * 262144 := by
  have hcalRat : (1 : Rat) ≤ (rateCalibration tag ppr ppm3 : Rat) := by exact_mod_cast hcal
  have hscaled : 0 < rateFactor tag * p := mul_pos (rateFactor_pos tag) hpos
  rw [rateValue_eq]
  constructor
  · exact div_pos hscaled (by linarith)
  · calc rateFactor tag * p / (rateCalibration tag ppr ppm3 : Rat) ≤ rateFactor tag * p := div_le_self hscaled.le hcalRat
      _ ≤ rateFactor tag * 262144 := mul_le_mul_of_nonneg_left hp (rateFactor_pos tag).le

/-- R154 for a conversion: positive, and at most the value at count 1, speed range 32 and calibration 1. -/
theorem conv_range {tag : RateTag} {count : BitVec 11} {sr ppr ppm3 : Nat} {v : Rat} (hv : conv tag count sr ppr ppm3 = .ok v)
    (hsr : sr ∈ [1, 2, 4, 8, 16, 32]) (hcal : 1 ≤ rateCalibration tag ppr ppm3) : 0 < v ∧ v ≤ rateFactor tag * 262144 := by
  rcases conv_cases tag count sr ppr ppm3 with ⟨_, hconv⟩ | ⟨hzero, _, hconv⟩
  · rw [hconv] at hv
    cases hv
  · rw [hconv] at hv
    cases hv
    have hcount : 1 ≤ count.toNat := Nat.one_le_iff_ne_zero.mpr hzero
    have hnum : 0 < sr * 8192 := Nat.mul_pos (one_le_of_mem_srset hsr) (by decide)
    exact rateValue_range tag (div_pos (Nat.cast_pos.mpr hnum) (Nat.cast_pos.mpr hcount)) (pulses_le (le_of_mem_srset hsr) hcount) hcal

/-- The bound is attained. -/
theorem conv_max (tag : RateTag) : conv tag 1 32 1 1 = .ok (rateFactor tag * 262144) := by
  have hcal : rateCalibration tag 1 1 = 1 := by cases tag <;> rfl
  have hcount : (1 : BitVec 11).toNat = 1 := rfl
  rw [conv_signal (by decide), rateValue_eq, hcal, hcount]
  norm_num

end Sys2Proof.Machine

namespace Sys2Proof
open Sys2Proof.Machine

/-- Settles O47: the bound of a tag is its constant times the largest pulses per second. -/
theorem rateRanges : Obligations.RateRanges := by
  refine ⟨fun tag => rateFactor tag * 262144, ?_, ?_, ?_, ?_, ?_, ?_, ?_, ?_, ?_, ?_, ?_, ?_, ?_, ?_, ?_, ?values, conv_max, ?slowest⟩
  case values =>
    intro tag count sr ppr ppm3 hsr hppr hppm3 hpos hcount
    have hv := conv_signal (count := count) (by omega) tag sr ppr ppm3
    obtain ⟨hlow, hhigh⟩ := conv_range hv hsr (one_le_rateCalibration (fun _ => hppr) fun _ => hppm3)
    refine ⟨_, hv, hlow, hhigh, ?_⟩
    rintro rfl
    exact le_pulses (one_le_of_mem_srset hsr) hpos hcount
  case slowest =>
    intro ppr ppm3
    have hcount : (2046 : BitVec 11).toNat = 2046 := rfl
    rw [conv_signal (by decide), rateValue, hcount]
    norm_num
  all_goals norm_num [rateFactor]

end Sys2Proof

/-! PROOFS. The result port never overflows (41_unit_conversion.md R131). The ends of a command are walked once per shared operation: from a
state with legal calibration and FRAC = 24, every end keeps FRAC and answers, if OK, a value between 0 and the largest rate. What RES carries
is then arithmetic on the value. -/

namespace Sys2Proof.Machine

/-- 0 to the largest value of R131, that of KCONV.LPH. -/
def InRange (v : Rat) : Prop := 0 ≤ v ∧ v ≤ 943718400000

/-- What the bodies of the commands rely on; no transaction changes it. -/
structure Ready (s : State) : Prop where
  calibration : CalLegal s
  frac : s.params.frac = 24

/-- What a command leaves: FRAC as it was, and an OK response only with a value in range. -/
structure AnswersInRange (t : State) : Prop where
  frac : t.params.frac = 24
  value : ∀ v, t.response = some (.ok v) → InRange v

/-! Values in range. -/

/-- Every value but a rate is at most a 32-bit number. -/
theorem inRange_of_le_natCast {v : Rat} {n : Nat} (h0 : 0 ≤ v) (hv : v ≤ (n : Rat)) (hn : n < 2 ^ 32) : InRange v := by
  have hnRat : (n : Rat) ≤ 2 ^ 32 := by exact_mod_cast hn.le
  exact ⟨h0, by linarith⟩

theorem inRange_natCast {n : Nat} (hn : n < 2 ^ 32) : InRange (n : Rat) :=
  inRange_of_le_natCast (Nat.cast_nonneg n) le_rfl hn

theorem inRange_zero : InRange 0 := ⟨le_rfl, by norm_num⟩

theorem inRange_toNat {w : Nat} (x : BitVec w) (hw : w ≤ 32) : InRange (x.toNat : Rat) :=
  inRange_natCast (x.isLt.trans_le (Nat.pow_le_pow_right (by decide) hw))

theorem inRange_boolToNat (b : Bool) : InRange (b.toNat : Rat) :=
  inRange_natCast (b.toNat_lt.trans (by decide))

theorem inRange_sr {sr : Nat} (hsr : legalSr sr = true) : InRange (sr : Rat) :=
  inRange_natCast ((le_of_mem_srset (legalSr_eq_true.mp hsr)).trans_lt (by decide))

/-- A conversion factor of at most 1 keeps a 32-bit number in range. -/
theorem inRange_scaled {v k : Rat} {n : Nat} (hv : v = (n : Rat) * k) (hk0 : 0 ≤ k) (hk1 : k ≤ 1) (hn : n < 2 ^ 32) : InRange v := by
  subst hv
  have hnonneg : (0 : Rat) ≤ (n : Rat) := Nat.cast_nonneg n
  exact inRange_of_le_natCast (mul_nonneg hnonneg hk0) (mul_le_of_le_one_right hnonneg hk1) hn

theorem inRange_percentOf {raw : Nat} (hraw : raw < 2 ^ 32) : InRange (percentOf raw) :=
  inRange_scaled (mul_div_assoc _ _ _) (by norm_num) (by norm_num) hraw

theorem inRange_pulsesPerLitre (v : Word32) : InRange (pulsesPerLitre v.toNat) :=
  inRange_scaled (div_eq_mul_one_div _ _) (by norm_num) (by norm_num) v.isLt

theorem inRange_pulsesPerGallon (v : Word32) : InRange (pulsesPerGallon v.toNat) :=
  inRange_scaled rfl (by norm_num [gal_eq]) (by norm_num [gal_eq]) v.isLt

theorem inRange_conv {tag : RateTag} {count : BitVec 11} {sr ppr ppm3 : Nat} {v : Rat} (hv : conv tag count sr ppr ppm3 = .ok v)
    (hsr : sr ∈ [1, 2, 4, 8, 16, 32]) (hcal : 1 ≤ rateCalibration tag ppr ppm3) : InRange v := by
  obtain ⟨hpos, hle⟩ := conv_range hv hsr hcal
  have hfactor := rateFactor_le tag
  exact ⟨hpos.le, by linarith⟩

/-- A decoded target: 0, or the RPM of a count of at least 1. -/
theorem inRange_tgtDec {m : TgtSentinelDecode} {t : BitVec 11} {sr ppr : Nat} {v : Rat} (hv : tgtDec m t sr ppr = .ok v)
    (hsr : sr ∈ [1, 2, 4, 8, 16, 32]) (hppr : 1 ≤ ppr) : InRange v := by
  unfold tgtDec at hv
  split_ifs at hv with hsentinel hzero
  · cases hv
    exact inRange_zero
  · cases hv
    have hsr32 := le_of_mem_srset hsr
    have hden : 1 ≤ ppr * t.toNat := Nat.mul_pos hppr (Nat.pos_of_ne_zero hzero)
    refine inRange_of_le_natCast (by positivity) (div_le_self (Nat.cast_nonneg _) (by exact_mod_cast hden)) ?_
    rw [kclk]
    omega

theorem tgtEnc_le {rpm sr ppr tg : Nat} (h : tgtEnc rpm sr ppr = .ok tg) : tg ≤ 2047 := by
  by_cases hrpm : rpm = 0
  · rw [hrpm, tgtEnc_zero] at h
    cases h
    exact le_rfl
  · obtain ⟨_, _, hle⟩ := (tgtEnc_eq_ok_iff hrpm).mp h
    omega

/-! The ends of a command. -/

theorem answersInRange_respond {s : State} {r : Result} (hfrac : s.params.frac = 24) (hr : ∀ v, r = .ok v → InRange v) :
    AnswersInRange (s.respond r) :=
  ⟨hfrac, fun v hv => hr v (Option.some.inj hv)⟩

theorem answersInRange_ok {s : State} {v : Rat} (hfrac : s.params.frac = 24) (hv : InRange v) : AnswersInRange (s.ok v) :=
  answersInRange_respond hfrac fun _ h => Except.ok.inj h ▸ hv

theorem answersInRange_raise {s : State} (st : Status) (hfrac : s.params.frac = 24) : AnswersInRange (s.raise st) :=
  answersInRange_respond hfrac nofun

theorem answersInRange_hang {s : State} (hfrac : s.params.frac = 24) : AnswersInRange s.hang :=
  ⟨hfrac, nofun⟩

/-! The shared operations of the command bodies. -/

theorem Ready.issue {s : State} (hs : Ready s) (op : BusOp) : Ready (issue s op).2 := ⟨hs.calibration, hs.frac⟩

theorem Ready.one_le_pprOf {s : State} (hs : Ready s) (c : Channel) : 1 ≤ pprOf s c :=
  have ⟨hppr, _⟩ := hs.calibration c
  one_le_toNat_of_one_le_toInt hppr

theorem Ready.one_le_ppm3Of {s : State} (hs : Ready s) (c : Channel) : 1 ≤ ppm3Of s c :=
  have ⟨_, hppm3⟩ := hs.calibration c
  one_le_toNat_of_one_le_toInt hppm3

theorem answersInRange_bus {s : State} {op : BusOp} {k : Word16 → State → State} (hs : Ready s)
    (hk : ∀ w u, Ready u → AnswersInRange (k w u)) : AnswersInRange (bus op s k) :=
  bus_post op s k (fun w _ => hk w _ (hs.issue op)) (answersInRange_raise _ hs.frac) (answersInRange_hang hs.frac)

theorem answersInRange_readSR {s : State} {c : Channel} {k : Nat → State → State} (hs : Ready s)
    (hk : ∀ sr u, Ready u → legalSr sr = true → AnswersInRange (k sr u)) : AnswersInRange (readSR c s k) :=
  readSR_post c s k hs (fun _ op _ hu => hu.issue op) (fun _ st hu _ => answersInRange_raise st hu.frac)
    (fun _ hu => answersInRange_hang hu.frac) (fun _ sr hu hsr => hk sr _ hu hsr)

theorem answersInRange_withEncoded {α : Type} {e : Except Status α} {s : State} {k : α → State} (hs : Ready s)
    (hk : ∀ a, AnswersInRange (k a)) : AnswersInRange (withEncoded e s k) := by
  rcases withEncoded_cases e s k with ⟨a, _, hok⟩ | ⟨st, _, herror⟩
  · exact hok ▸ hk a
  · exact herror ▸ answersInRange_raise st hs.frac

theorem answersInRange_channelCommand {ch : BitVec 3} {s t : State} {body : Channel → State → State} (hs : Ready s)
    (h : channelCommand ch s body = .next t) (hbody : ∀ c u, Ready u → AnswersInRange (body c u)) : AnswersInRange t :=
  channelCommand_post h (answersInRange_raise _ hs.frac) fun c _ => hbody c s.accept ⟨hs.calibration, hs.frac⟩

theorem answersInRange_kernelCommand {s t : State} {f : Params → Request → Result} (hs : Ready s) (h : kernelCommand s f = .next t)
    (hf : ∀ v, f s.params s.req = .ok v → InRange v) : AnswersInRange t := by
  rw [kernelCommand_next] at h
  cases h
  exact answersInRange_respond hs.frac hf

/-! The bodies and kernels that several commands share. -/

theorem answersInRange_rateGet (tag : RateTag) (c : Channel) (u : State) (hu : Ready u) : AnswersInRange (rateGet tag c u) := by
  refine answersInRange_bus hu fun w u hu => ?_
  dsimp only
  split
  · exact answersInRange_raise _ hu.frac
  · refine answersInRange_readSR hu fun sr u hu hsr => answersInRange_respond hu.frac fun v hv => ?_
    have hcal := one_le_rateCalibration (tag := tag) (fun _ => hu.one_le_pprOf c) fun _ => hu.one_le_ppm3Of c
    exact inRange_conv hv (legalSr_eq_true.mp hsr) hcal

theorem answersInRange_targetGet (c : Channel) (t : BitVec 11) (u : State) (hu : Ready u) : AnswersInRange (targetGet c t u) := by
  rcases targetGet_cases c t u with ⟨_, hget⟩ | ⟨_, _, hget⟩ | ⟨_, _, hget⟩ <;> rw [hget]
  · exact answersInRange_raise _ hu.frac
  · exact answersInRange_ok hu.frac inRange_zero
  · exact answersInRange_readSR hu fun sr u hu hsr => answersInRange_respond hu.frac fun v hv =>
      inRange_tgtDec hv (legalSr_eq_true.mp hsr) (hu.one_le_pprOf c)

/-- SET.PPR and SET.PPM3: the operand check, then a change of the calibration state that leaves FRAC alone. -/
theorem answersInRange_setCalibration {u u' : State} (v : Word32) (hu : Ready u) (hparams : u'.params = u.params) :
    AnswersInRange (if legalCal v then u'.ok 0 else u.raise .invalidArgument) := by
  split
  · exact answersInRange_ok (hparams ▸ hu.frac) inRange_zero
  · exact answersInRange_raise _ hu.frac

theorem inRange_rateKernel {tag : RateTag} {r : Request} {v : Rat} (hv : rateKernel tag r = .ok v) : InRange v := by
  unfold rateKernel at hv
  split at hv
  next hlegal =>
    obtain ⟨hsr, hppr, hppm3⟩ := legalRateOperands_eq_true.mp hlegal
    exact inRange_conv hv hsr (one_le_rateCalibration (fun hreads => one_le_toNat_of_one_le_toInt (hppr hreads))
      fun hreads => one_le_toNat_of_one_le_toInt (hppm3 hreads))
  next => cases hv

/-- A kernel that answers a natural number. -/
theorem inRange_of_okNat {n : Nat} {v : Rat} (hv : okNat n = .ok v) (hn : n < 2 ^ 32) : InRange v := by
  cases hv
  exact inRange_natCast hn

/-! Every command. -/

theorem exec_answersInRange {i : Instr} {s t : State} (hs : Ready s) (h : exec i s = .next t) : AnswersInRange t := by
  unfold exec at h
  cases i with
  | getPwm ch =>
    exact answersInRange_channelCommand hs h fun c u hu => answersInRange_bus hu fun w u hu =>
      answersInRange_ok hu.frac (inRange_toNat (decDuty w) (by decide))
  | getSpd ch =>
    exact answersInRange_channelCommand hs h fun c u hu => answersInRange_bus hu fun w u hu =>
      answersInRange_ok hu.frac (inRange_percentOf ((decDuty w).isLt.trans (by decide)))
  | getSr ch =>
    exact answersInRange_channelCommand hs h fun c u hu => answersInRange_readSR hu fun sr u hu hsr =>
      answersInRange_ok hu.frac (inRange_sr hsr)
  | getPpr ch =>
    exact answersInRange_channelCommand hs h fun c u hu => answersInRange_ok hu.frac (inRange_toNat (u.ppr.get c) le_rfl)
  | getPpm3 ch =>
    exact answersInRange_channelCommand hs h fun c u hu => answersInRange_ok hu.frac (inRange_toNat (u.ppm3.get c) le_rfl)
  | getPpl ch =>
    exact answersInRange_channelCommand hs h fun c u hu => answersInRange_ok hu.frac (inRange_pulsesPerLitre (u.ppm3.get c))
  | getPpg ch =>
    exact answersInRange_channelCommand hs h fun c u hu => answersInRange_ok hu.frac (inRange_pulsesPerGallon (u.ppm3.get c))
  | getTac ch =>
    exact answersInRange_channelCommand hs h fun c u hu => answersInRange_bus hu fun w u hu =>
      answersInRange_ok hu.frac (inRange_toNat (decTach w) (by decide))
  | getPps ch | getPpm ch | getPph ch | getRps ch | getRpm ch | getRph ch | getM3ps ch | getM3pm ch | getM3ph ch
  | getLps ch | getLpm ch | getLph ch | getGps ch | getGpm ch | getGph ch =>
    exact answersInRange_channelCommand hs h (answersInRange_rateGet _)
  | getMode ch =>
    exact answersInRange_channelCommand hs h fun c u hu => answersInRange_bus hu fun w u hu =>
      answersInRange_ok hu.frac (inRange_boolToNat (w.getLsbD 0))
  | getTgt ch =>
    exact answersInRange_channelCommand hs h fun c u hu => answersInRange_bus hu fun w u hu =>
      answersInRange_targetGet c (decTach w) u hu
  | getAt ch =>
    exact answersInRange_channelCommand hs h fun c u hu => answersInRange_ok hu.frac (inRange_boolToNat (u.atEn.get c))
  | setPwm ch =>
    exact answersInRange_channelCommand hs h fun c u hu => answersInRange_withEncoded hu fun word =>
      answersInRange_bus hu fun _ u hu => answersInRange_ok hu.frac inRange_zero
  | setSr ch =>
    exact answersInRange_channelCommand hs h fun c u hu => answersInRange_withEncoded hu fun code =>
      answersInRange_bus hu fun _ u hu => answersInRange_bus hu fun _ u hu => answersInRange_bus hu fun _ u hu =>
        answersInRange_ok hu.frac inRange_zero
  | setPpr ch | setPpm3 ch =>
    exact answersInRange_channelCommand hs h fun c u hu => answersInRange_setCalibration u.req.wdata hu rfl
  | setMode ch =>
    exact answersInRange_channelCommand hs h fun c u hu => answersInRange_bus hu fun _ u hu =>
      answersInRange_ok hu.frac inRange_zero
  | setTgt ch =>
    refine answersInRange_channelCommand hs h fun c u hu => ?_
    split
    · exact answersInRange_bus hu fun _ u hu => answersInRange_ok hu.frac inRange_zero
    · exact answersInRange_readSR hu fun sr u hu _ => answersInRange_withEncoded hu fun tg =>
        answersInRange_withEncoded hu fun word => answersInRange_bus hu fun _ u hu => answersInRange_ok hu.frac inRange_zero
  | setAt ch =>
    exact answersInRange_channelCommand hs h fun c u hu => answersInRange_ok hu.frac inRange_zero
  | kconvSpd =>
    refine answersInRange_kernelCommand hs h fun v hv => ?_
    split at hv <;> cases hv
    exact inRange_percentOf s.req.wdata.isLt
  | kconvPpl =>
    refine answersInRange_kernelCommand hs h fun v hv => ?_
    split at hv <;> cases hv
    exact inRange_pulsesPerLitre s.req.kppm3
  | kconvPpg =>
    refine answersInRange_kernelCommand hs h fun v hv => ?_
    split at hv <;> cases hv
    exact inRange_pulsesPerGallon s.req.kppm3
  | kconvPps | kconvPpm | kconvPph | kconvRps | kconvRpm | kconvRph | kconvM3ps | kconvM3pm | kconvM3ph
  | kconvLps | kconvLpm | kconvLph | kconvGps | kconvGpm | kconvGph =>
    exact answersInRange_kernelCommand hs h fun v => inRange_rateKernel
  | kdecMode =>
    exact answersInRange_kernelCommand hs h fun v hv => inRange_of_okNat hv ((Bool.toNat_lt _).trans (by decide))
  | kdecSr =>
    refine answersInRange_kernelCommand hs h fun v hv => ?_
    split at hv
    next sr hsr =>
      cases hv
      exact inRange_sr (decSR_legal hsr)
    next => cases hv
  | kdecDuty =>
    exact answersInRange_kernelCommand hs h fun v hv => inRange_of_okNat hv ((BitVec.isLt _).trans (by decide))
  | kdecTach =>
    exact answersInRange_kernelCommand hs h fun v hv => inRange_of_okNat hv ((BitVec.isLt _).trans (by decide))
  | kencSr | kencDuty | kencTach =>
    refine answersInRange_kernelCommand hs h fun v hv => ?_
    split at hv
    · exact inRange_of_okNat hv ((BitVec.isLt _).trans (by decide))
    · cases hv
  | ktgtEnc =>
    refine answersInRange_kernelCommand hs h fun v hv => ?_
    split at hv
    · split at hv
      next tg htg => exact inRange_of_okNat hv ((tgtEnc_le htg).trans_lt (by decide))
      next => cases hv
    · cases hv
  | ktgtDec =>
    refine answersInRange_kernelCommand hs h fun v hv => ?_
    split at hv
    next hlegal =>
      have hoperands := legalTgtOperands_eq_true.mp hlegal
      rw [not_or, not_not, not_lt] at hoperands
      obtain ⟨hsr, hppr⟩ := hoperands
      exact inRange_tgtDec hv hsr (one_le_toNat_of_one_le_toInt hppr)
    next => cases hv

/-! The result port. -/

/-- A value of 40 integer bits leaves with 24 fraction bits, rounded down (R131). -/
theorem toNat_resOf {v : Rat} (h0 : 0 ≤ v) (hv : v < 2 ^ 40) : ((resOf 24 (.ok v)).toNat : Int) = (v * 2 ^ 24).floor := by
  have hnonneg : 0 ≤ (v * 2 ^ 24).floor := Rat.le_floor_iff.mpr (by push_cast; positivity)
  have hlt : (v * 2 ^ 24).floor < 2 ^ 64 := Rat.floor_lt_iff.mpr (by push_cast; linarith)
  have hfits : (v * 2 ^ 24).floor.toNat < 2 ^ 64 := by omega
  rw [resOf, if_pos hfits, BitVec.toNat_ofNat, Nat.mod_eq_of_lt hfits, Int.toNat_of_nonneg hnonneg]

theorem resOf_eq_zero {v : Rat} (h0 : 0 ≤ v) (hv : v < 1 / 2 ^ 24) : resOf 24 (.ok v) = 0 := by
  have hfloor := toNat_resOf h0 (hv.trans (by norm_num))
  have hlt : (v * 2 ^ 24).floor < 1 := Rat.floor_lt_iff.mpr (by rw [lt_div_iff₀ (by norm_num)] at hv; exact_mod_cast hv)
  apply BitVec.eq_of_toNat_eq
  have hzero : (0 : Word64).toNat = 0 := rfl
  omega

theorem port_of_response {t : State} {v : Rat} (hfrac : t.params.frac = 24) (hr : t.response = some (.ok v)) :
    t.statusPort = some 0 ∧ t.resPort = some (resOf 24 (.ok v)) := by
  rw [State.statusPort, State.resPort, hr, hfrac]
  exact ⟨rfl, rfl⟩

/-- The largest value: LPH at count 1, speed range 32 and PPM3 1. -/
theorem rateValue_lph_max (ppr : Nat) : rateValue .lph (((32 * 8192 : Nat) : Rat) / ((1 : Nat) : Rat)) ppr 1 = 943718400000 := by
  norm_num [rateValue, pulsesPerLitre]

theorem exec_kconvLph_max {s : State} (hcount : s.req.kcount = 1) (hsr : s.req.ksr = 32) (hppm3 : s.req.kppm3 = 1) :
    exec .kconvLph s = .next (s.accept.respond (.ok 943718400000)) := by
  have hexec := exec_rateKernel (tag := .lph) (s := s) (legalRateOperands_flow rfl rfl) rfl
  rw [hcount, hsr, hppm3] at hexec
  rw [← rateValue_lph_max s.req.kppr.toNat]
  exact hexec

theorem exec_getLph_max {s s1 : State} {ch : BitVec 3} {c : Channel} {wt b7 b6 b5 : Word16} (hch : ch.toNat = c.index + 1)
    (hreads : issueAll s.accept (rateReads c) = some ([wt, b7, b6, b5], s1)) (hcount : wt.toNat / 32 = 1)
    (hcode : codeOf b7 b6 b5 = 5) (hppm3 : s.ppm3.get c = 1) :
    exec (.getLph ch) s = .next (s1.respond (.ok 943718400000)) := by
  have hsr : SrIs s.accept.params.srUnmatched (codeOf b7 b6 b5) 32 := .inl ⟨hcode.le, by rw [hcode]; rfl⟩
  have hget := rateGet_of_issueAll (tag := .lph) hreads (by omega) (by omega) hsr
  rw [hcount, State.accept_ppm3, hppm3] at hget
  rw [exec, execGetLph, channelCommand_legal s _ (channelOf_of_index hch), hget]
  exact congrArg (fun v => Host.Outcome.next (s1.respond (.ok v))) (rateValue_lph_max _)

end Sys2Proof.Machine

namespace Sys2Proof
open Sys2Proof.Machine

/-- Settles O49: every command answers in range, and a value in range fits the port; both forms of LPH attain the largest value. -/
theorem resultPortNeverOverflows : Obligations.ResultPortNeverOverflows := by
  refine ⟨fun i s t v hcal hfrac hexec hr => ?_, fun s => exec_kconvLph_max, fun s s1 ch c wt b7 b6 b5 => exec_getLph_max⟩
  have hanswers := exec_answersInRange ⟨hcal, hfrac⟩ hexec
  obtain ⟨h0, hmax⟩ := hanswers.value v hr
  obtain ⟨hstatus, hres⟩ := port_of_response hanswers.frac hr
  have hbits : v < 2 ^ 40 := hmax.trans_lt (by norm_num)
  exact ⟨h0, hmax, hbits, hstatus, _, hres, toNat_resOf h0 hbits, resOf_eq_zero h0⟩

end Sys2Proof

/-! PROOFS. The gets that read no register (42_get_commands.md R168 to R171, R190). Each answers a function of the calibration state of its
channel, and the command leaves nothing but the accepted request and that answer. -/

namespace Sys2Proof.Machine

/-- GET.PPR (R168). -/
theorem exec_getPpr {ch : BitVec 3} {c : Channel} (hch : ch.toNat = c.index + 1) (s : State) :
    exec (.getPpr ch) s = .next (s.accept.respond (.ok ((s.ppr.get c).toNat : Rat))) := by
  rw [exec, execGetPpr, channelCommand_legal s _ (channelOf_of_index hch), State.ok, pprOf, State.accept_ppr]

/-- GET.PPM3 (R169). -/
theorem exec_getPpm3 {ch : BitVec 3} {c : Channel} (hch : ch.toNat = c.index + 1) (s : State) :
    exec (.getPpm3 ch) s = .next (s.accept.respond (.ok ((s.ppm3.get c).toNat : Rat))) := by
  rw [exec, execGetPpm3, channelCommand_legal s _ (channelOf_of_index hch), State.ok, ppm3Of, State.accept_ppm3]

/-- GET.PPL (R170). -/
theorem exec_getPpl {ch : BitVec 3} {c : Channel} (hch : ch.toNat = c.index + 1) (s : State) :
    exec (.getPpl ch) s = .next (s.accept.respond (.ok (((s.ppm3.get c).toNat : Rat) / 1000))) := by
  rw [exec, execGetPpl, channelCommand_legal s _ (channelOf_of_index hch), State.ok, pulsesPerLitre, ppm3Of, State.accept_ppm3]

/-- GET.PPG (R171): the gallon in lowest terms. -/
theorem exec_getPpg {ch : BitVec 3} {c : Channel} (hch : ch.toNat = c.index + 1) (s : State) :
    exec (.getPpg ch) s =
      .next (s.accept.respond (.ok (((s.ppm3.get c).toNat * 473176473 : Nat) / (125000000000 : Nat) : Rat))) := by
  have hvalue : pulsesPerGallon (s.ppm3.get c).toNat =
      (((s.ppm3.get c).toNat * 473176473 : Nat) / (125000000000 : Nat) : Rat) := by
    rw [pulsesPerGallon, gal_eq]
    push_cast
    ring
  rw [exec, execGetPpg, channelCommand_legal s _ (channelOf_of_index hch), State.ok, ppm3Of, State.accept_ppm3, hvalue]

/-- GET.AT (R190). -/
theorem exec_getAt {ch : BitVec 3} {c : Channel} (hch : ch.toNat = c.index + 1) (s : State) :
    exec (.getAt ch) s = .next (s.accept.respond (.ok (if s.atEn.get c then 1 else 0))) := by
  rw [exec, execGetAt, channelCommand_legal s _ (channelOf_of_index hch), State.ok, State.accept_atEn]
  cases s.atEn.get c <;> simp

end Sys2Proof.Machine

namespace Sys2Proof
open Sys2Proof.Machine

/-- Settles O8: the encodings by the 8 values of the channel field, the answers command by command, channel 0 and 7 by the test that all
GET commands share, and the reset values, which are one value on all six channels. -/
theorem calibrationGetsAnswer : Obligations.CalibrationGetsAnswer := by
  refine ⟨by decide, fun s ch c hch => ?legal, fun s ch hch i hi => ?illegal, fun c => ?atReset⟩
  case legal => exact ⟨exec_getPpr hch s, exec_getPpm3 hch s, exec_getPpl hch s, exec_getPpg hch s, exec_getAt hch s⟩
  case illegal =>
    have hillegal : legalChannel ch = false := by rcases hch with rfl | rfl <;> rfl
    have hchannel : i.channel = some ch := by
      simp only [List.mem_cons, List.not_mem_nil, or_false] at hi
      rcases hi with rfl | rfl | rfl | rfl | rfl <;> rfl
    exact exec_of_illegal_channel s hchannel hillegal
  case atReset =>
    have hppr : State.reset.ppr.get c = pprDefault := PerChannel.get_all _ c
    have hppm3 : State.reset.ppm3.get c = ppm3Default := PerChannel.get_all _ c
    exact ⟨congrArg BitVec.toNat hppr, congrArg BitVec.toNat hppm3, PerChannel.get_all _ c⟩

end Sys2Proof

/-! PROOFS. The body of a rate get (42_get_commands.md R164). Its first transaction reads the count. A stalled count ends the command there;
any other count hands over to ReadSR, which judges the code only after its third bit read. -/

namespace Sys2Proof.Machine

/-- The 15 rate gets are one body (R173 to R187). -/
theorem exec_getInstr (tag : RateTag) (ch : BitVec 3) (s : State) :
    exec (tag.getInstr ch) s = channelCommand ch s (rateGet tag) := by
  cases tag <;> rfl

/-- A run of transactions with its data, split at the first one. -/
theorem issue_of_issueAll_cons {s t : State} {op : BusOp} {ops : List BusOp} {w : Word16} {ws : List Word16}
    (h : issueAll s (op :: ops) = some (w :: ws, t)) :
    (issue s op).1 = .done w ∧ issueAll (issue s op).2 ops = some (ws, t) := by
  obtain ⟨w', ws', hdone, hrest, hdata⟩ := issueAll_cons h
  cases hdata
  exact ⟨hdone, hrest⟩

/-! ReadSR on a code without a meaning (R161, 40_field_codec.md R111). -/

/-- Bits 7:5 of the byte ReadSR assembles hold the code. -/
theorem toNat_srByte_div (b7 b6 b5 : Word16) :
    (srByte (b7.getLsbD 0) (b6.getLsbD 0) (b5.getLsbD 0)).toNat / 32 = codeOf b7 b6 b5 := by
  have h7 := (b7.getLsbD 0).toNat_le
  have h6 := (b6.getLsbD 0).toNat_le
  have h5 := (b5.getLsbD 0).toNat_le
  rw [srByte, codeOf, BitVec.toNat_ofNat]
  omega

theorem readSR_unmatched {c : Channel} {s t : State} {b7 b6 b5 : Word16} (k : Nat → State → State)
    (h : issueAll s (srReads c) = some ([b7, b6, b5], t)) (hcode : 6 ≤ codeOf b7 b6 b5) (hu : s.params.srUnmatched = .error) :
    readSR c s k = t.raise .unrecognizedEncoding := by
  have hdec : decSR s.params.srUnmatched (srByte (b7.getLsbD 0) (b6.getLsbD 0) (b5.getLsbD 0)) = .error .unrecognizedEncoding := by
    rw [decSR_eq, toNat_srByte_div, if_neg (by omega), hu, if_neg (by decide)]
  rw [readSR_of_issueAll k h, hdec]

/-! RateGet by the count (R164). -/

theorem rateGet_stalled {tag : RateTag} {c : Channel} {s : State} {wt : Word16} (hread : (issue s (.memRead (offTach c))).1 = .done wt)
    (hcount : wt.toNat / 32 = 0 ∨ wt.toNat / 32 = 2047) :
    rateGet tag c s = (issue s (.memRead (offTach c))).2.raise .noSignal := by
  rw [← toNat_decTach] at hcount
  rw [rateGet, readTach, memRead, bus_done _ hread]
  exact if_pos hcount

theorem rateGet_signal {tag : RateTag} {c : Channel} {s : State} {wt : Word16} (hread : (issue s (.memRead (offTach c))).1 = .done wt)
    (h0 : wt.toNat / 32 ≠ 0) (h1 : wt.toNat / 32 ≠ 2047) :
    rateGet tag c s = readSR c (issue s (.memRead (offTach c))).2 fun sr u =>
      u.respond (conv tag (decTach wt) sr (pprOf u c) (ppm3Of u c)) := by
  rw [← toNat_decTach] at h0 h1
  rw [rateGet, readTach, memRead, bus_done _ hread]
  exact if_neg (not_or.mpr ⟨h0, h1⟩)

/-- After its four transactions a rate get answers Conv, with the calibration of the state in which the command was accepted. -/
theorem rateGet_eq_conv {tag : RateTag} {c : Channel} {s t : State} {wt b7 b6 b5 : Word16} {sr : Nat}
    (h : issueAll s (rateReads c) = some ([wt, b7, b6, b5], t)) (h0 : wt.toNat / 32 ≠ 0) (h1 : wt.toNat / 32 ≠ 2047)
    (hsr : SrIs s.params.srUnmatched (codeOf b7 b6 b5) sr) :
    rateGet tag c s = t.respond (conv tag (decTach wt) sr (s.ppr.get c).toNat (s.ppm3.get c).toNat) := by
  have hcount : ¬((decTach wt).toNat = 0 ∨ (decTach wt).toNat = 2047) := by
    rw [toNat_decTach]
    exact not_or.mpr ⟨h0, h1⟩
  rw [rateGet_of_issueAll h h0 h1 hsr, conv_signal hcount, toNat_decTach, kclk]

end Sys2Proof.Machine

namespace Sys2Proof
open Sys2Proof.Machine

/-- Settles O13: the count read alone decides the stalled case; with a signal the code decides between the status and Conv. -/
theorem rateGetBody : Obligations.RateGetBody := by
  intro s s1 tag ch c wt hch
  rw [exec_getInstr, channelCommand_legal s _ (channelOf_of_index hch)]
  refine ⟨fun hread hcount => ?stalled, fun b7 b6 b5 hreads h0 h1 => ⟨fun hcode hu => ?unmatched, fun sr hsr => ?value⟩⟩
  case stalled =>
    obtain ⟨hdone, hend⟩ := issue_of_issueAll_cons hread
    cases hend
    rw [rateGet_stalled hdone hcount]
  case unmatched =>
    obtain ⟨hdone, hbits⟩ := issue_of_issueAll_cons hreads
    rw [rateGet_signal hdone h0 h1, readSR_unmatched _ hbits hcode hu]
  case value => rw [rateGet_eq_conv hreads h0 h1 hsr, State.accept_ppr, State.accept_ppm3]

end Sys2Proof

/-! PROOFS. The sets of calibration state (43_set_commands.md R203, R204, R207). The operand check comes before the write, so each command
is one equation: the accepted state with its own array changed at the channel, or the accepted state with InvalidArgument. -/

namespace Sys2Proof.Machine

/-- A write to a per-channel array changes the entry of its channel and no other (00_scope.md R13). -/
theorem PerChannel.get_set {α : Type} (p : PerChannel α) (c d : Channel) (v : α) :
    (p.set c v).get d = if d = c then v else p.get d := by
  split
  next hsame => rw [hsame, get_set_same]
  next hother => exact get_set_other p v hother

/-- SET.PPR (R203). -/
theorem exec_setPpr {ch : BitVec 3} {c : Channel} (hch : ch.toNat = c.index + 1) (s : State) :
    exec (.setPpr ch) s = .next (
      if 1 ≤ s.req.wdata.toInt then ({ s.accept with ppr := s.ppr.set c s.req.wdata } : State).respond (.ok 0)
      else s.accept.raise .invalidArgument) := by
  rw [exec, execSetPpr, channelCommand_legal s _ (channelOf_of_index hch)]
  exact congrArg Host.Outcome.next (if_congr legalCal_eq_true rfl rfl)

/-- SET.PPM3 (R204). -/
theorem exec_setPpm3 {ch : BitVec 3} {c : Channel} (hch : ch.toNat = c.index + 1) (s : State) :
    exec (.setPpm3 ch) s = .next (
      if 1 ≤ s.req.wdata.toInt then ({ s.accept with ppm3 := s.ppm3.set c s.req.wdata } : State).respond (.ok 0)
      else s.accept.raise .invalidArgument) := by
  rw [exec, execSetPpm3, channelCommand_legal s _ (channelOf_of_index hch)]
  exact congrArg Host.Outcome.next (if_congr legalCal_eq_true rfl rfl)

/-- SET.AT (R207): every operand is legal. -/
theorem exec_setAt {ch : BitVec 3} {c : Channel} (hch : ch.toNat = c.index + 1) (s : State) :
    exec (.setAt ch) s =
      .next (({ s.accept with atEn := s.atEn.set c (s.req.wdata.getLsbD 0) } : State).respond (.ok 0)) := by
  rw [exec, execSetAt, channelCommand_legal s _ (channelOf_of_index hch)]
  rfl

end Sys2Proof.Machine

namespace Sys2Proof
open Sys2Proof.Machine

/-- Settles O19: the encodings by the 8 values of the channel field, the two ends of SET.PPR and SET.PPM3 by their operand check, channel 0
and 7 by the test that all SET commands share, and the array entries by the one rule of a per-channel write. -/
theorem calibrationSetsWrite : Obligations.CalibrationSetsWrite := by
  refine ⟨by decide, fun s ch c hch => ⟨fun hlegal => ?legal, fun hlow => ?rejected, exec_setAt hch s⟩,
    fun s ch hch i hi => ?illegal, fun s c d v b => ?entries⟩
  case legal => exact ⟨by rw [exec_setPpr hch, if_pos hlegal], by rw [exec_setPpm3 hch, if_pos hlegal]⟩
  case rejected =>
    have hnot : ¬ 1 ≤ s.req.wdata.toInt := not_le.mpr hlow
    exact ⟨by rw [exec_setPpr hch, if_neg hnot], by rw [exec_setPpm3 hch, if_neg hnot]⟩
  case illegal =>
    have hillegal : legalChannel ch = false := by rcases hch with rfl | rfl <;> rfl
    have hchannel : i.channel = some ch := by
      simp only [List.mem_cons, List.not_mem_nil, or_false] at hi
      rcases hi with rfl | rfl | rfl <;> rfl
    exact exec_of_illegal_channel s hchannel hillegal
  case entries => exact ⟨s.ppr.get_set c d v, s.ppm3.get_set c d v, s.atEn.get_set c d b⟩

end Sys2Proof

/-! PROOFS. The decision table of the auto-tuner (44_autotuner_host.md R224, R225). One equation for each region of the table, by the tests
that precede its rows; rows 5 to 9 are one region, in which the row only chooses the new speed range. -/

namespace Sys2Proof.Machine

/-- The speed range that rows 5 to 9 choose, by the tests of R224. -/
def raisedSr (avg : Rat) (sr : Nat) : Nat :=
  if avg > 500 ∧ sr < 16 then sr * 2
  else if avg > 250 ∧ sr < 8 then sr * 4
  else if avg > 125 ∧ sr < 4 then sr * 8
  else if avg > 62 ∧ sr < 2 then 16
  else 32

/-- Rows 1 and 2. -/
theorem tuneRow_stop {avg : Rat} {sr : Nat} (havg : avg ≤ 2040) (h : sr = 32 ∨ avg > 1000) : tuneRow avg sr = .stop := by
  rcases h with hsr | hband
  · rw [tuneRow, if_pos ⟨havg, hsr⟩]
  · rw [tuneRow, if_pos (c := avg ≤ 2040 ∧ avg > 1000) ⟨havg, hband⟩, ite_self]

/-- Above 2040 rows 1 and 2 do not apply. -/
theorem tuneRow_halve {avg : Rat} {sr : Nat} (havg : avg > 2040) (hsr : sr > 1) : tuneRow avg sr = .setSr (sr / 2) := by
  have hnot : ¬ avg ≤ 2040 := not_le.mpr havg
  rw [tuneRow, if_neg fun h => hnot h.1, if_neg fun h => hnot h.1, if_pos ⟨havg, hsr⟩]

/-- Row 4, where row 3 has no smaller speed range. -/
theorem tuneRow_unreachable {avg : Rat} (havg : avg > 2040) : tuneRow avg 1 = .unreachable := by
  have hnot : ¬ avg ≤ 2040 := not_le.mpr havg
  rw [tuneRow, if_neg fun h => hnot h.1, if_neg fun h => hnot h.1, if_neg fun h => absurd h.2 (lt_irrefl 1), if_pos ⟨havg, rfl⟩]

/-- Below the band and below 32 rows 1 to 4 do not apply, and each of the other five changes the speed range. -/
theorem tuneRow_raise {avg : Rat} {sr : Nat} (havg : avg ≤ 1000) (hsr : sr < 32) : tuneRow avg sr = .setSr (raisedSr avg sr) := by
  have hhigh : ¬ avg > 2040 := not_lt.mpr (havg.trans (by norm_num))
  rw [tuneRow, if_neg fun h => hsr.ne h.2, if_neg fun h => not_lt.mpr havg h.2, if_neg fun h => hhigh h.1, if_neg fun h => hhigh h.1]
  simp only [raisedSr, apply_ite TuneAction.setSr]

/-- On a legal speed range the upper bounds of rows 5 to 8 are R225's lists, and row 8 applies from 1 only. -/
theorem raisedSr_of_legal {sr : Nat} (avg : Rat) (hsr : sr ∈ [1, 2, 4, 8, 16, 32]) :
    raisedSr avg sr = (if avg > 500 ∧ sr ∈ [1, 2, 4, 8] then sr * 2
      else if avg > 250 ∧ sr ∈ [1, 2, 4] then sr * 4
      else if avg > 125 ∧ sr ∈ [1, 2] then sr * 8
      else if avg > 62 ∧ sr = 1 then 16 else 32) := by
  have hbounds : ∀ sr ∈ [1, 2, 4, 8, 16, 32], (sr < 16 ↔ sr ∈ [1, 2, 4, 8]) ∧ (sr < 8 ↔ sr ∈ [1, 2, 4]) ∧
      (sr < 4 ↔ sr ∈ [1, 2]) ∧ (sr < 2 ↔ sr = 1) := by decide
  obtain ⟨h16, h8, h4, h2⟩ := hbounds sr hsr
  rw [raisedSr]
  simp only [h16, h8, h4, h2]

/-- The bound that a row puts on the old speed range keeps the new one at most 32. -/
theorem raisedSr_mem {sr : Nat} (avg : Rat) (hsr : sr ∈ [1, 2, 4, 8, 16, 32]) : raisedSr avg sr ∈ [2, 4, 8, 16, 32] := by
  have hproducts : ∀ sr ∈ [1, 2, 4, 8, 16, 32], (sr < 16 → sr * 2 ∈ [2, 4, 8, 16, 32]) ∧ (sr < 8 → sr * 4 ∈ [2, 4, 8, 16, 32]) ∧
      (sr < 4 → sr * 8 ∈ [2, 4, 8, 16, 32]) := by decide
  obtain ⟨hdouble, hquadruple, heightfold⟩ := hproducts sr hsr
  rw [raisedSr]
  split_ifs with row5 row6 row7 row8
  · exact hdouble row5.2
  · exact hquadruple row6.2
  · exact heightfold row7.2
  · decide
  · decide

/-- Row 3 applies above 1, and half of a legal speed range above 1 is one of the first five. -/
theorem half_mem {sr : Nat} (hsr : sr ∈ [1, 2, 4, 8, 16, 32]) (h : sr > 1) : sr / 2 ∈ [1, 2, 4, 8, 16] := by
  have hhalves : ∀ sr ∈ [1, 2, 4, 8, 16, 32], sr > 1 → sr / 2 ∈ [1, 2, 4, 8, 16] := by decide
  exact hhalves sr hsr h

/-- Every speed range the table sets is a legal operand of SET.SR: the row is 3 or one of 5 to 9. -/
theorem tuneRow_setSr_legal {avg : Rat} {sr n : Nat} (hsr : sr ∈ [1, 2, 4, 8, 16, 32]) (h : tuneRow avg sr = .setSr n) :
    n ∈ [1, 2, 4, 8, 16, 32] := by
  rcases lt_or_ge 2040 avg with habove | hbelow
  · rcases (one_le_of_mem_srset hsr).eq_or_lt with rfl | hgt
    · cases (tuneRow_unreachable habove).symm.trans h
    · cases (tuneRow_halve habove hgt).symm.trans h
      exact List.mem_append_left [32] (half_mem hsr hgt)
  · by_cases hstop : sr = 32 ∨ avg > 1000
    · cases (tuneRow_stop hbelow hstop).symm.trans h
    · obtain ⟨hne, hlow⟩ := not_or.mp hstop
      have hlt : sr < 32 := (le_of_mem_srset hsr).lt_of_ne hne
      cases (tuneRow_raise (not_lt.mp hlow) hlt).symm.trans h
      exact List.mem_cons_of_mem 1 (raisedSr_mem avg hsr)

end Sys2Proof.Machine

namespace Sys2Proof
open Sys2Proof.Machine

/-- Settles O56: the table's equation in each of its four regions, and the speed ranges that rows 5 to 9 choose from a legal one. -/
theorem tunerDecisions : Obligations.TunerDecisions := by
  intro avg sr hsr
  refine ⟨fun n => tuneRow_setSr_legal hsr, fun havg hgt => ⟨tuneRow_halve havg hgt, half_mem hsr hgt⟩, fun havg hone => ?lowest,
    tuneRow_stop, fun havg hlt => ⟨raisedSr avg sr, tuneRow_raise havg hlt, raisedSr_mem avg hsr, raisedSr_of_legal avg hsr⟩⟩
  case lowest => rw [hone, tuneRow_unreachable havg]

end Sys2Proof

/-! PROOFS. The statuses that judge a value (60_exceptions.md R240). Every function of the codec and of the conversion fails with
InvalidArgument, NoSignal or UnrecognizedEncoding, and so does every kernel, whose response is such a function's result (R110): InvalidChannel
comes from the channel test alone, TransportError from the bus alone. -/

namespace Sys2Proof.Machine

/-- The statuses that judge an operand, a count or a code (60_exceptions.md R244, R245, R247). -/
def valueStatuses : List Status := [.invalidArgument, .noSignal, .unrecognizedEncoding]

/-- A result that, if it is an error, judges a value. -/
def ErrsOnValue {α : Type} (e : Except Status α) : Prop := ∀ st, e = .error st → st ∈ valueStatuses

theorem ErrsOnValue.ok {α : Type} (a : α) : ErrsOnValue (.ok a) := nofun

theorem ErrsOnValue.error {α : Type} {st : Status} (hst : st ∈ valueStatuses) : ErrsOnValue (.error st : Except Status α) :=
  fun _ h => Except.error.inj h ▸ hst

theorem ErrsOnValue.invalidArgument {α : Type} : ErrsOnValue (.error .invalidArgument : Except Status α) := .error (by decide)

theorem ErrsOnValue.noSignal {α : Type} : ErrsOnValue (.error .noSignal : Except Status α) := .error (by decide)

theorem ErrsOnValue.unrecognizedEncoding {α : Type} : ErrsOnValue (.error .unrecognizedEncoding : Except Status α) :=
  .error (by decide)

theorem ErrsOnValue.ne_error {α : Type} {e : Except Status α} {st : Status} (he : ErrsOnValue e) (hst : st ∉ valueStatuses) :
    e ≠ .error st :=
  fun h => hst (he st h)

/-- A test between two results, which is what most functions of the codec are. -/
theorem ErrsOnValue.ite {α : Type} {p : Prop} [Decidable p] {e f : Except Status α} (he : ErrsOnValue e) (hf : ErrsOnValue f) :
    ErrsOnValue (if p then e else f) := by
  split
  · exact he
  · exact hf

theorem errsOnValue_encSR (sr : Nat) : ErrsOnValue (encSR sr) := by
  by_cases hsr : sr ∈ [1, 2, 4, 8, 16, 32]
  · obtain ⟨k, hk, rfl⟩ := mem_srset_iff.mp hsr
    exact encSR_two_pow hk ▸ .ok _
  · exact encSR_of_not_mem hsr ▸ .invalidArgument

theorem errsOnValue_encDuty (v : Nat) : ErrsOnValue (encDuty v) := .ite .invalidArgument (.ok _)

theorem errsOnValue_encTach (t : Nat) : ErrsOnValue (encTach t) := .ite .invalidArgument (.ok _)

theorem errsOnValue_tgtEnc (rpm sr ppr : Nat) : ErrsOnValue (tgtEnc rpm sr ppr) := .ite (.ok _) (.ite (.ok _) .invalidArgument)

theorem errsOnValue_tgtDec (m : TgtSentinelDecode) (t : BitVec 11) (sr ppr : Nat) : ErrsOnValue (tgtDec m t sr ppr) :=
  .ite (.ok _) (.ite .noSignal (.ok _))

theorem errsOnValue_conv (tag : RateTag) (count : BitVec 11) (sr ppr ppm3 : Nat) : ErrsOnValue (conv tag count sr ppr ppm3) := by
  rcases conv_cases tag count sr ppr ppm3 with ⟨_, hconv⟩ | ⟨_, _, hconv⟩
  · exact hconv ▸ .noSignal
  · exact hconv ▸ .ok _

theorem errsOnValue_rateKernel (tag : RateTag) (r : Request) : ErrsOnValue (rateKernel tag r) :=
  .ite (errsOnValue_conv tag _ _ _ _) .invalidArgument

/-- What a kernel can do: answer, from the accepted state, OK or a status that judges a value. -/
theorem exec_kernel {i : Instr} (hi : i.isKernel = true) (s : State) :
    ∃ r, exec i s = .next (s.accept.respond r) ∧ ErrsOnValue r := by
  cases i with
  | kconvSpd => exact ⟨_, exec_kconvSpd s, .ite .invalidArgument (.ok _)⟩
  | kconvPpl => exact ⟨_, exec_kconvPpl s, .ite .invalidArgument (.ok _)⟩
  | kconvPpg => exact ⟨_, exec_kconvPpg s, .ite .invalidArgument (.ok _)⟩
  | kconvPps | kconvPpm | kconvPph | kconvRps | kconvRpm | kconvRph | kconvM3ps | kconvM3pm | kconvM3ph
  | kconvLps | kconvLpm | kconvLph | kconvGps | kconvGpm | kconvGph =>
    exact ⟨_, rfl, errsOnValue_rateKernel _ s.req⟩
  | kdecMode => exact ⟨_, exec_kdecMode s, .ok _⟩
  | kdecSr => exact ⟨_, exec_kdecSr s, .ite (.ok _) (.ite (.ok _) .unrecognizedEncoding)⟩
  | kdecDuty => exact ⟨_, exec_kdecDuty s, .ok _⟩
  | kdecTach => exact ⟨_, exec_kdecTach s, .ok _⟩
  | kencSr => exact ⟨_, exec_kencSr s, .ite (.ok _) .invalidArgument⟩
  | kencDuty => exact ⟨_, exec_kencDuty s, .ite (.ok _) .invalidArgument⟩
  | kencTach => exact ⟨_, exec_kencTach s, .ite (.ok _) .invalidArgument⟩
  | ktgtEnc => exact ⟨_, exec_ktgtEnc s, .ite .invalidArgument (.ite (.ok _) (.ite (.ok _) .invalidArgument))⟩
  | ktgtDec => exact ⟨_, exec_ktgtDec s, .ite .invalidArgument (.ite .noSignal (.ite (.ok _) (.ok _)))⟩
  | _ => cases hi

end Sys2Proof.Machine

/-! PROOFS. The channel test (60_exceptions.md R243). A GET or SET word with channel 0 or 7 meets it whatever its other fields; a kernel word
that names no command fails another test of 30_encoding.md R85, and the kernel it names otherwise has no channel to judge. -/

namespace Sys2Proof

theorem isKernel_of_kernelOfFn {fn : Nat} {i : Instr} (h : kernelOfFn fn = some i) : i.isKernel = true := by
  unfold kernelOfFn at h
  split at h <;> cases h <;> rfl

/-- A word of class 2 names kernels only. -/
theorem isKernel_of_instrOf {cw : Word16} {i : Instr} (h : instrOf cw = some i) (hclass : (cwClass cw).toNat = 2) :
    i.isKernel = true := by
  unfold instrOf at h
  simp only [hclass] at h
  split_ifs at h
  exact isKernel_of_kernelOfFn h

end Sys2Proof

namespace Sys2Proof.Machine

/-- A kernel word answers InvalidArgument, or as the kernel it names. -/
theorem step_of_kernel_word {s : State} (h : Accepts s) (hclass : (cwClass s.req.cw).toNat = 2) :
    ∃ r, step s = .next (s.accept.respond r) ∧ ErrsOnValue r := by
  cases hi : instrOf s.req.cw with
  | none =>
    have hreason : rejectReason s.req.cw ≠ .badChannel := rejectReason_ne_badChannel (.inr fun ⟨hne, _⟩ => hne hclass)
    exact ⟨_, step_of_not_named h (by simp [hi]) hreason, .invalidArgument⟩
  | some i =>
    rw [step_of_decode_ok h (decode_of_instrOf_some hi)]
    exact exec_kernel (isKernel_of_instrOf hi hclass) s

end Sys2Proof.Machine

namespace Sys2Proof
open Sys2Proof.Machine

/-- Settles O7: the words by test 2 of R85, the commands by the test that every GET and SET makes first, the kernels by their statuses. -/
theorem badChannelAnswersInvalidChannel : Obligations.BadChannelAnswersInvalidChannel := by
  refine ⟨fun s h hclass hch => ?word, fun s i ch hi hch => ?command, fun s t h hclass hstep => ?kernel⟩
  case word =>
    rw [← toNat_cwClass] at hclass
    rw [← toNat_cwCh] at hch
    exact step_of_illegal_channel h (by omega) (by omega) hch
  case command =>
    have hillegal : legalChannel ch = false := by rcases hch with rfl | rfl <;> rfl
    exact exec_of_illegal_channel s hi hillegal
  case kernel =>
    rw [← toNat_cwClass] at hclass
    obtain ⟨r, hr, hvalue⟩ := step_of_kernel_word h hclass
    cases hr.symm.trans hstep
    exact fun hresponse => hvalue.ne_error (by decide) (Option.some.inj hresponse)

end Sys2Proof

/-! PROOFS. The ends of a command (00_scope.md R15, 20_memory.md R53, R54, 60_exceptions.md R246, R248). The bodies of the commands are walked
once: `Progress` says what has happened while every transaction succeeded, and `CommandEnd` lists the four ways to stop there. What a failing
command leaves, and what TransportError says about its transactions, are then read off the four ends. -/

namespace Sys2Proof.Machine

/-! A transaction as a write (20_memory.md R52). -/

/-- The write a primitive is, if it is one. -/
def BusOp.writes : BusOp → List BusOp
  | .bitRead _ _ => []
  | .memRead _ => []
  | .bitWrite off i b => [.bitWrite off i b]
  | .memWrite off w => [.memWrite off w]

/-- A read leaves the register image alone, whatever the environment answers. -/
theorem chipAfter_of_read {op : BusOp} (hop : op.writes = []) (m : Memory) (a : BusAnswer) : chipAfter m op a = m := by
  cases op with
  | bitRead | memRead => rcases a with _ | _ | ⟨_ | _⟩ | ⟨_ | _⟩ <;> rfl
  | bitWrite | memWrite => cases hop

/-- The successful writes among the transactions recorded in a state, in order. -/
def State.written (s : State) : List BusOp := (s.trace.filter Transaction.wrote).map Transaction.op

theorem written_issue_done {s : State} {op : BusOp} {w : Word16} (h : (issue s op).1 = .done w) :
    (issue s op).2.written = s.written ++ op.writes := by
  rw [State.written, State.written, issue_trace, h, List.filter_append, List.map_append]
  cases op <;> rfl

theorem written_issue_failed {s : State} {op : BusOp} (h : (issue s op).1 = .failed) : (issue s op).2.written = s.written := by
  have hfailed : ([⟨s.params.devAddr, op, .failed⟩] : List Transaction).filter Transaction.wrote = [] := by cases op <;> rfl
  rw [State.written, State.written, issue_trace, h, List.filter_append, hfailed, List.append_nil]

/-! While every transaction succeeds. -/

theorem noneFailed_issue {s : State} {op : BusOp} {w : Word16} (hs : noneFailed s) (h : (issue s op).1 = .done w) :
    noneFailed (issue s op).2 := by
  intro x hx
  rw [issue_trace, List.mem_append, List.mem_singleton] at hx
  rcases hx with hx | rfl
  · exact hs x hx
  · exact ⟨w, h⟩

/-- A command accepted at `s` has reached `u`: no transaction has failed, the calibration is as it was, and `writes` are the writes so far. -/
structure Progress (writes : List BusOp) (s u : State) : Prop where
  ppr : u.ppr = s.ppr
  ppm3 : u.ppm3 = s.ppm3
  atEn : u.atEn = s.atEn
  noneFailed : noneFailed u
  written : u.written = writes
  chip : writes = [] → u.chip = s.chip

theorem progress_accept (s : State) : Progress [] s s.accept := ⟨rfl, rfl, rfl, nofun, rfl, fun _ => rfl⟩

theorem Progress.issue {writes : List BusOp} {s u : State} {op : BusOp} {w : Word16} (hu : Progress writes s u)
    (h : (issue u op).1 = .done w) : Progress (writes ++ op.writes) s (issue u op).2 where
  ppr := hu.ppr
  ppm3 := hu.ppm3
  atEn := hu.atEn
  noneFailed := noneFailed_issue hu.noneFailed h
  written := by rw [written_issue_done h, hu.written]
  chip hnone := by
    obtain ⟨hwrites, hop⟩ := List.append_eq_nil_iff.mp hnone
    rw [issue_chip, chipAfter_of_read hop, hu.chip hwrites]

/-! The four ends. -/

/-- The writes that can stand behind a command when a later transaction fails: none, or for SET.SR the first two bit writes (R248). -/
def WritesBeforeFailure (i : Instr) (writes : List BusOp) : Prop :=
  writes = [] ∨ ∃ ch c b7 b6, i = .setSr ch ∧ ch.toNat = c.index + 1 ∧
    writes <+: [.bitWrite (offDyn c) 7 b7, .bitWrite (offDyn c) 6 b6]

theorem writesBeforeFailure_nil (i : Instr) : WritesBeforeFailure i [] := .inl rfl

theorem WritesBeforeFailure.length_le {i : Instr} {writes : List BusOp} (h : WritesBeforeFailure i writes) : writes.length ≤ 2 := by
  rcases h with rfl | ⟨ch, c, b7, b6, -, -, hprefix⟩
  · exact Nat.zero_le 2
  · exact hprefix.length_le

theorem WritesBeforeFailure.mem {i : Instr} {writes : List BusOp} {op : BusOp} (h : WritesBeforeFailure i writes)
    (hop : op ∈ writes) :
    ∃ ch c, i = .setSr ch ∧ ch.toNat = c.index + 1 ∧ ∃ (j : Fin 8) (b : Bool), op = .bitWrite (offDyn c) j b ∧ (j = 7 ∨ j = 6) := by
  rcases h with rfl | ⟨ch, c, b7, b6, hi, hch, hprefix⟩
  · cases hop
  · refine ⟨ch, c, hi, hch, ?_⟩
    have hmem := hprefix.subset hop
    rw [List.mem_cons, List.mem_singleton] at hmem
    rcases hmem with rfl | rfl
    · exact ⟨7, b7, rfl, .inl rfl⟩
    · exact ⟨6, b6, rfl, .inr rfl⟩

/-- How the command `i` accepted at `s` ends. -/
inductive CommandEnd (i : Instr) (s : State) : State → Prop
  /-- OK, after transactions that all succeeded. -/
  | answered {u : State} {v : Rat} (hu : noneFailed u) : CommandEnd i s (u.ok v)
  /-- A status other than TransportError, before any write. -/
  | rejected {u : State} {st : Status} (hu : Progress [] s u) (hst : st ≠ .transportError) : CommandEnd i s (u.raise st)
  /-- TransportError at the first transaction that fails. -/
  | failed {u : State} {op : BusOp} {writes : List BusOp} (hu : Progress writes s u) (hwrites : WritesBeforeFailure i writes)
      (hop : (issue u op).1 = .failed) : CommandEnd i s ((issue u op).2.raise .transportError)
  /-- No end: the block waits for a transaction that does not complete. -/
  | stuck {u : State} {op : BusOp} (hu : noneFailed u) (hop : (issue u op).1 = .pending) : CommandEnd i s (issue u op).2.hang

/-! The shared operations of the command bodies. -/

theorem commandEnd_respond {i : Instr} {s u : State} {r : Result} (hu : Progress [] s u) (hr : ErrsOnValue r) :
    CommandEnd i s (u.respond r) := by
  cases r with
  | ok v => exact .answered hu.noneFailed
  | error st => exact .rejected hu fun hst => hr.ne_error (by decide) (congrArg Except.error hst)

theorem commandEnd_bus {i : Instr} {writes : List BusOp} {s u : State} {op : BusOp} {k : Word16 → State → State}
    (hu : Progress writes s u) (hwrites : WritesBeforeFailure i writes)
    (hk : ∀ w v, Progress (writes ++ op.writes) s v → CommandEnd i s (k w v)) : CommandEnd i s (bus op u k) := by
  rcases bus_cases op u k with ⟨w, hop, hbus⟩ | ⟨hop, hbus⟩ | ⟨hop, hbus⟩ <;> rw [hbus]
  · exact hk w _ (hu.issue hop)
  · exact .failed hu hwrites hop
  · exact .stuck hu.noneFailed hop

/-- The first transaction of a body, or one after reads. -/
theorem commandEnd_firstBus {i : Instr} {s u : State} {op : BusOp} {k : Word16 → State → State} (hu : Progress [] s u)
    (hk : ∀ w v, Progress op.writes s v → CommandEnd i s (k w v)) : CommandEnd i s (bus op u k) :=
  commandEnd_bus hu (writesBeforeFailure_nil i) hk

theorem commandEnd_readSR {i : Instr} {s u : State} {c : Channel} {k : Nat → State → State} (hu : Progress [] s u)
    (hk : ∀ sr v, Progress [] s v → CommandEnd i s (k sr v)) : CommandEnd i s (readSR c u k) := by
  refine commandEnd_firstBus hu fun b7 u hu => commandEnd_firstBus hu fun b6 u hu => commandEnd_firstBus hu fun b5 u hu => ?_
  dsimp only
  split
  next sr _ => exact hk sr u hu
  next st hst => exact .rejected hu (by rw [decSR_error hst]; decide)

theorem commandEnd_withEncoded {α : Type} {i : Instr} {s u : State} {e : Except Status α} {k : α → State} (hu : Progress [] s u)
    (he : ErrsOnValue e) (hk : ∀ a, CommandEnd i s (k a)) : CommandEnd i s (withEncoded e u k) := by
  rcases withEncoded_cases e u k with ⟨a, _, hok⟩ | ⟨st, hst, herror⟩
  · exact hok ▸ hk a
  · exact herror ▸ .rejected hu fun h => he.ne_error (by decide) (h ▸ hst)

theorem index_of_channelOf {ch : BitVec 3} {c : Channel} (h : channelOf ch = some c) : ch.toNat = c.index + 1 := by
  revert ch
  cases c <;> decide

theorem commandEnd_channelCommand {i : Instr} {ch : BitVec 3} {s t : State} {body : Channel → State → State}
    (h : channelCommand ch s body = .next t)
    (hbody : ∀ c u, ch.toNat = c.index + 1 → Progress [] s u → CommandEnd i s (body c u)) : CommandEnd i s t :=
  channelCommand_post h (.rejected (progress_accept s) (by decide)) fun c hc =>
    hbody c s.accept (index_of_channelOf hc) (progress_accept s)

theorem commandEnd_kernel {i : Instr} {s t : State} (hi : i.isKernel = true) (h : exec i s = .next t) : CommandEnd i s t := by
  obtain ⟨r, hr, hvalue⟩ := exec_kernel hi s
  cases hr.symm.trans h
  exact commandEnd_respond (progress_accept s) hvalue

/-! The bodies that several commands share. -/

theorem commandEnd_rateGet {i : Instr} {s : State} (tag : RateTag) (c : Channel) (u : State) (hu : Progress [] s u) :
    CommandEnd i s (rateGet tag c u) := by
  refine commandEnd_firstBus hu fun w u hu => ?_
  dsimp only
  split
  · exact .rejected hu (by decide)
  · exact commandEnd_readSR hu fun sr u hu => commandEnd_respond hu (errsOnValue_conv tag _ _ _ _)

theorem commandEnd_targetGet {i : Instr} {s : State} (c : Channel) (t : BitVec 11) (u : State) (hu : Progress [] s u) :
    CommandEnd i s (targetGet c t u) := by
  rcases targetGet_cases c t u with ⟨_, hget⟩ | ⟨_, _, hget⟩ | ⟨_, _, hget⟩ <;> rw [hget]
  · exact .rejected hu (by decide)
  · exact .answered hu.noneFailed
  · exact commandEnd_readSR hu fun sr u hu => commandEnd_respond hu (errsOnValue_tgtDec _ t _ _)

/-- SET.PPR and SET.PPM3: the operand check, then a change of the calibration state that records no transaction. -/
theorem commandEnd_setCalibration {i : Instr} {s u u' : State} (v : Word32) (hu : Progress [] s u) (htrace : u'.trace = u.trace) :
    CommandEnd i s (if legalCal v then u'.ok 0 else u.raise .invalidArgument) := by
  split
  · exact .answered (u := u') fun x hx => hu.noneFailed x (htrace ▸ hx)
  · exact .rejected hu (by decide)

/-- A two-byte write, or a bit write, as the last transaction of a command. -/
theorem commandEnd_lastWrite {i : Instr} {writes : List BusOp} {s u : State} {op : BusOp} (hu : Progress writes s u)
    (hwrites : WritesBeforeFailure i writes) : CommandEnd i s (bus op u fun _ v => v.ok 0) :=
  commandEnd_bus hu hwrites fun _ _ hv => .answered hv.noneFailed

/-- SET.SR after its operand check: a failure finds the bit writes before it done. -/
theorem commandEnd_srWrites {ch : BitVec 3} {c : Channel} {s u : State} (hch : ch.toNat = c.index + 1) (b7 b6 b5 : Bool)
    (hu : Progress [] s u) :
    CommandEnd (.setSr ch) s
      (bitWrite (offDyn c) 7 b7 u fun u => bitWrite (offDyn c) 6 b6 u fun u => bitWrite (offDyn c) 5 b5 u fun u => u.ok 0) := by
  have hbefore {writes : List BusOp} (hprefix : writes <+: [.bitWrite (offDyn c) 7 b7, .bitWrite (offDyn c) 6 b6]) :
      WritesBeforeFailure (.setSr ch) writes := .inr ⟨ch, c, b7, b6, rfl, hch, hprefix⟩
  refine commandEnd_firstBus hu fun _ u hu => ?_
  refine commandEnd_bus hu (hbefore (List.prefix_append _ _)) fun _ u hu => ?_
  exact commandEnd_lastWrite hu (hbefore (List.prefix_refl _))

/-! Every command. -/

/-- What a command can do. -/
theorem exec_commandEnd {i : Instr} {s t : State} (h : exec i s = .next t) : CommandEnd i s t := by
  unfold exec at h
  cases i with
  | getPwm ch | getSpd ch | getTac ch | getMode ch =>
    exact commandEnd_channelCommand h fun c u _ hu => commandEnd_firstBus hu fun w u hu => .answered hu.noneFailed
  | getSr ch =>
    exact commandEnd_channelCommand h fun c u _ hu => commandEnd_readSR hu fun sr u hu => .answered hu.noneFailed
  | getPpr ch | getPpm3 ch | getPpl ch | getPpg ch | getAt ch =>
    exact commandEnd_channelCommand h fun c u _ hu => .answered hu.noneFailed
  | getPps ch | getPpm ch | getPph ch | getRps ch | getRpm ch | getRph ch | getM3ps ch | getM3pm ch | getM3ph ch
  | getLps ch | getLpm ch | getLph ch | getGps ch | getGpm ch | getGph ch =>
    exact commandEnd_channelCommand h fun c u _ hu => commandEnd_rateGet _ c u hu
  | getTgt ch =>
    exact commandEnd_channelCommand h fun c u _ hu => commandEnd_firstBus hu fun w u hu => commandEnd_targetGet c (decTach w) u hu
  | setPwm ch =>
    exact commandEnd_channelCommand h fun c u _ hu => commandEnd_withEncoded hu (errsOnValue_encDuty _) fun word =>
      commandEnd_lastWrite hu (writesBeforeFailure_nil _)
  | setSr ch =>
    exact commandEnd_channelCommand h fun c u hch hu => commandEnd_withEncoded hu (errsOnValue_encSR _) fun code =>
      commandEnd_srWrites hch _ _ _ hu
  | setPpr ch | setPpm3 ch =>
    exact commandEnd_channelCommand h fun c u _ hu => commandEnd_setCalibration u.req.wdata hu rfl
  | setMode ch =>
    exact commandEnd_channelCommand h fun c u _ hu => commandEnd_lastWrite hu (writesBeforeFailure_nil _)
  | setTgt ch =>
    refine commandEnd_channelCommand h fun c u _ hu => ?_
    split
    · exact commandEnd_lastWrite hu (writesBeforeFailure_nil _)
    · exact commandEnd_readSR hu fun sr u hu => commandEnd_withEncoded hu (errsOnValue_tgtEnc _ sr _) fun tg =>
        commandEnd_withEncoded hu (errsOnValue_encTach tg) fun word => commandEnd_lastWrite hu (writesBeforeFailure_nil _)
  | setAt ch =>
    exact commandEnd_channelCommand h fun c u _ hu => .answered (u := { u with atEn := u.atEn.set c u.req.wbit }) hu.noneFailed
  | _ => exact commandEnd_kernel rfl h

/-! What a failing command leaves (R248). -/

/-- The calibration and the writes behind a status other than OK. -/
theorem CommandEnd.of_error {i : Instr} {s t : State} {st : Status} (ht : CommandEnd i s t) (hst : t.response = some (.error st)) :
    t.ppr = s.ppr ∧ t.ppm3 = s.ppm3 ∧ t.atEn = s.atEn ∧ WritesBeforeFailure i t.written ∧
      (st ≠ .transportError → t.written = [] ∧ t.chip = s.chip) := by
  cases ht with
  | answered | stuck => cases hst
  | rejected hu _ =>
    have hwritten := hu.written
    exact ⟨hu.ppr, hu.ppm3, hu.atEn, .inl hwritten, fun _ => ⟨hwritten, hu.chip rfl⟩⟩
  | failed hu hwrites hop =>
    have hwritten := (written_issue_failed hop).trans hu.written
    refine ⟨hu.ppr, hu.ppm3, hu.atEn, hwritten ▸ hwrites, fun hne => ?_⟩
    cases hst
    exact absurd rfl hne

theorem mem_written {t : State} {x : Transaction} (hx : x ∈ t.trace) (hwrote : x.wrote = true) : x.op ∈ t.written :=
  List.mem_map_of_mem (List.mem_filter.mpr ⟨hx, hwrote⟩)

theorem resPort_of_error {t : State} {st : Status} (h : t.response = some (.error st)) : t.resPort = some 0 := by
  rw [State.resPort, h]
  rfl

/-! Where a failed transaction can stand (R246). -/

theorem noneFailed.ne_failed {s : State} (hs : noneFailed s) {x : Transaction} (hx : x ∈ s.trace) : x.outcome ≠ .failed := by
  obtain ⟨w, hw⟩ := hs x hx
  rw [hw]
  nofun

/-- After transactions that all succeeded, one more is the only one that can have failed, so a failed one is the last. -/
theorem failed_is_last {u : State} {op : BusOp} {pre post : List Transaction} {x : Transaction} (hu : noneFailed u)
    (htrace : (issue u op).2.trace = pre ++ x :: post) (hx : x.outcome = .failed) : post = [] := by
  rcases List.eq_nil_or_concat' post with hnil | ⟨post', y, rfl⟩
  · exact hnil
  · have hinit : u.trace = pre ++ x :: post' :=
      (List.append_inj' (htrace.trans (List.append_assoc pre (x :: post') [y]).symm) rfl).1
    exact absurd hx (hu.ne_failed (hinit ▸ List.mem_append_cons_self))

/-- TransportError is the end at a failed transaction, and no other. -/
theorem CommandEnd.transportError_iff {i : Instr} {s t : State} (ht : CommandEnd i s t) :
    t.response = some (.error .transportError) ↔ ∃ x ∈ t.trace, x.outcome = .failed := by
  cases ht with
  | answered hu => exact ⟨nofun, fun ⟨x, hx, hfailed⟩ => absurd hfailed (hu.ne_failed hx)⟩
  | rejected hu hst =>
    exact ⟨fun h => absurd (Except.error.inj (Option.some.inj h)) hst, fun ⟨x, hx, hfailed⟩ =>
      absurd hfailed (hu.noneFailed.ne_failed hx)⟩
  | failed _ _ hop => exact ⟨fun _ => ⟨_, List.mem_append_right _ (List.mem_singleton_self _), hop⟩, fun _ => rfl⟩
  | stuck hu hop =>
    refine ⟨nofun, fun ⟨x, hx, hfailed⟩ => ?_⟩
    rw [State.hang_trace, issue_trace, List.mem_append, List.mem_singleton] at hx
    rcases hx with hx | rfl
    · exact absurd hfailed (hu.ne_failed hx)
    · cases hop.symm.trans hfailed

theorem CommandEnd.failed_is_last {i : Instr} {s t : State} {pre post : List Transaction} {x : Transaction} (ht : CommandEnd i s t)
    (htrace : t.trace = pre ++ x :: post) (hx : x.outcome = .failed) : post = [] := by
  have hmem : x ∈ t.trace := htrace ▸ List.mem_append_cons_self
  cases ht with
  | answered hu => exact absurd hx (hu.ne_failed hmem)
  | rejected hu _ => exact absurd hx (hu.noneFailed.ne_failed hmem)
  | failed hu _ _ => exact Machine.failed_is_last hu.noneFailed htrace hx
  | stuck hu _ => exact Machine.failed_is_last hu htrace hx

end Sys2Proof.Machine

namespace Sys2Proof
open Sys2Proof.Machine

/-- Settles O33: the ends with a status other than OK, their writes as `WritesBeforeFailure` bounds them. -/
theorem failingCommandHasNoEffect : Obligations.FailingCommandHasNoEffect := by
  intro i s t st hexec hst
  obtain ⟨hppr, hppm3, hatEn, hwrites, hclean⟩ := (exec_commandEnd hexec).of_error hst
  refine ⟨hppr, hppm3, hatEn, resPort_of_error hst, fun hne => (hclean hne).2, fun x hx hwrote => ?writes, ?count⟩
  case writes =>
    have hmem := mem_written hx hwrote
    refine ⟨by_contra fun hne => ?_, hwrites.mem hmem⟩
    obtain ⟨hnone, _⟩ := hclean hne
    rw [hnone] at hmem
    cases hmem
  case count => simpa [State.written] using hwrites.length_le

/-- Settles O34: the four ends for the first two clauses, the statuses of the kernels for the third. -/
theorem transportErrorEndsTheCommand : Obligations.TransportErrorEndsTheCommand := by
  intro i s t hexec
  have hend := exec_commandEnd hexec
  refine ⟨hend.transportError_iff, fun pre post x => hend.failed_is_last, fun hkernel hresponse => ?_⟩
  obtain ⟨r, hr, hvalue⟩ := exec_kernel hkernel s
  cases hr.symm.trans hexec
  exact hvalue.ne_error (by decide) (Option.some.inj hresponse)

end Sys2Proof

/-! PROOFS. Encoding and decoding are inverse (30_encoding.md R80 to R84). A command word is the sum of its four fields; the encoder writes
the fields of a command, and each table of the decoder names a command with exactly the fields it was found by. -/

namespace Sys2Proof

/-! The command word as a sum (R80). -/

theorem toNat_append_eq_add {n m : Nat} (x : BitVec n) (y : BitVec m) : (x ++ y).toNat = x.toNat * 2 ^ m + y.toNat := by
  rw [BitVec.toNat_append, ← Nat.shiftLeft_add_eq_or_of_lt y.isLt, Nat.shiftLeft_eq]

theorem toNat_encode (i : Instr) : (encode i).toNat = i.cls.toNat * 16384 + i.fn.toNat * 256 + i.chField.toNat := by
  have hrsv : (0 : BitVec 5).toNat = 0 := rfl
  rw [encode, toNat_append_eq_add, toNat_append_eq_add, toNat_append_eq_add, hrsv]
  omega

theorem toNat_eq_fields (cw : Word16) :
    cw.toNat = (cwClass cw).toNat * 16384 + (cwFn cw).toNat * 256 + (cwRsv cw).toNat * 8 + (cwCh cw).toNat := by
  rw [toNat_cwClass, toNat_cwFn, toNat_cwRsv, toNat_cwCh]
  omega

/-- The encoder writes the class, the function code and the channel field of the command, and 0 in the reserved bits. -/
theorem fields_encode (i : Instr) :
    cwClass (encode i) = i.cls ∧ cwFn (encode i) = i.fn ∧ cwRsv (encode i) = 0 ∧ cwCh (encode i) = i.chField := by
  have hsum : (encode i).toNat = i.cls.toNat * 16384 + i.fn.toNat * 256 + 0 * 8 + i.chField.toNat := by rw [toNat_encode]; omega
  obtain ⟨hcls, hfn, hrsv, hch⟩ := fields_of_toNat hsum i.fn.isLt (by decide) i.chField.isLt
  exact ⟨BitVec.eq_of_toNat_eq hcls, BitVec.eq_of_toNat_eq hfn, BitVec.eq_of_toNat_eq hrsv, BitVec.eq_of_toNat_eq hch⟩

/-! The tables of the decoder against those of the encoder (R81 to R83). -/

/-- Every command stands in the table of its class, under its function code. -/
theorem instrOf_encode (i : Instr) : instrOf (encode i) = some i := by
  obtain ⟨hcls, hfn, hrsv, hch⟩ := fields_encode i
  rw [instrOf, hcls, hfn, hrsv, hch]
  cases i <;> rfl

/-- A table names a command with the class of the table, the function code it was asked for, and the channel of the word. -/
theorem fields_of_getOfFn {fn : Nat} {ch : BitVec 3} {i : Instr} (h : getOfFn fn ch = some i) :
    i.cls.toNat = 0 ∧ i.fn.toNat = fn ∧ i.chField = ch := by
  unfold getOfFn at h
  split at h <;> cases h <;> exact ⟨rfl, rfl, rfl⟩

theorem fields_of_setOfFn {fn : Nat} {ch : BitVec 3} {i : Instr} (h : setOfFn fn ch = some i) :
    i.cls.toNat = 1 ∧ i.fn.toNat = fn ∧ i.chField = ch := by
  unfold setOfFn at h
  split at h <;> cases h <;> exact ⟨rfl, rfl, rfl⟩

theorem fields_of_kernelOfFn {fn : Nat} {i : Instr} (h : kernelOfFn fn = some i) :
    i.cls.toNat = 2 ∧ i.fn.toNat = fn ∧ i.chField = 0 := by
  unfold kernelOfFn at h
  split at h <;> cases h <;> exact ⟨rfl, rfl, rfl⟩

/-- A word that names a command has its fields, and no reserved bit. -/
theorem fields_of_instrOf {cw : Word16} {i : Instr} (h : instrOf cw = some i) :
    i.cls.toNat = (cwClass cw).toNat ∧ i.fn.toNat = (cwFn cw).toNat ∧ (cwRsv cw).toNat = 0 ∧ i.chField = cwCh cw := by
  unfold instrOf at h
  split at h
  · cases h
  next hrsv =>
    have hzero : (cwRsv cw).toNat = 0 := congrArg BitVec.toNat (not_not.mp hrsv)
    split at h
    next hget =>
      obtain ⟨hcls, hfn, hch⟩ := fields_of_getOfFn h
      exact ⟨hcls.trans hget.symm, hfn, hzero, hch⟩
    next hset =>
      obtain ⟨hcls, hfn, hch⟩ := fields_of_setOfFn h
      exact ⟨hcls.trans hset.symm, hfn, hzero, hch⟩
    next hkrn =>
      split at h
      next hnoCh =>
        obtain ⟨hcls, hfn, hch⟩ := fields_of_kernelOfFn h
        exact ⟨hcls.trans hkrn.symm, hfn, hzero, hch.trans hnoCh.symm⟩
      next => cases h
    next => cases h

theorem instrOf_of_decode_ok {cw : Word16} {i : Instr} (h : decode cw = .ok i) : instrOf cw = some i := by
  unfold decode at h
  split at h
  next hi => cases h; exact hi
  next => cases h

/-- Settles O1: the encoded fields lead the decoder back to the command, and the word is their sum. -/
theorem decodeEncodeRoundTrip : Obligations.DecodeEncodeRoundTrip :=
  fun i => ⟨decode_of_instrOf_some (instrOf_encode i), toNat_encode i⟩

/-- Settles O2: the word and the encoding of its command are the sum of the same fields. -/
theorem encodeDecodeRoundTrip : Obligations.EncodeDecodeRoundTrip := by
  intro cw i h
  obtain ⟨hcls, hfn, hrsv, hch⟩ := fields_of_instrOf (instrOf_of_decode_ok h)
  apply BitVec.eq_of_toNat_eq
  rw [toNat_encode, toNat_eq_fields cw, hcls, hfn, hrsv, hch, Nat.zero_mul, Nat.add_zero]

/-- Settles O3: each word is the encoding of its command. -/
theorem workedWordsDecode : Obligations.WorkedWordsDecode := by
  have hdecode {cw : Word16} {i : Instr} (h : encode i = cw) : decode cw = .ok i :=
    h ▸ decode_of_instrOf_some (instrOf_encode i)
  exact ⟨hdecode rfl, hdecode rfl, hdecode rfl, hdecode rfl, hdecode rfl, hdecode rfl, hdecode rfl⟩

end Sys2Proof

/-! PROOFS. The ports and the steps in which no command runs (10_state.md R29, R31, R40, 60_exceptions.md R240, 70_reset_and_hazards.md R270):
acceptance, the response cycle, the reset edge. The host's turn changes the input ports and the host alone (`State.present_frame`). -/

namespace Sys2Proof.Machine

/-! The response port (R31). -/

theorem rspValid_eq_isSome (s : State) : s.rspValid = s.response.isSome := by
  rw [State.rspValid, State.response]
  cases s.phase <;> rfl

theorem statusPort_of_response {s : State} {r : Result} (h : s.response = some r) :
    s.statusPort = some (resultStatus r).code := by
  rw [State.statusPort, h]
  rfl

/-- RES is the floor of the value, when that fits 64 bits (R131). -/
theorem toNat_resOf_of_lt {frac : Nat} {v : Rat} (h0 : 0 ≤ v) (hv : v * 2 ^ frac < 2 ^ 64) :
    ((resOf frac (.ok v)).toNat : Int) = (v * 2 ^ frac).floor := by
  have hnonneg : 0 ≤ (v * 2 ^ frac).floor := Rat.le_floor_iff.mpr (by push_cast; positivity)
  have hlt : (v * 2 ^ frac).floor < 2 ^ 64 := Rat.floor_lt_iff.mpr (by exact_mod_cast hv)
  have hfits : (v * 2 ^ frac).floor.toNat < 2 ^ 64 := by omega
  rw [resOf, if_pos hfits, BitVec.toNat_ofNat, Nat.mod_eq_of_lt hfits, Int.toNat_of_nonneg hnonneg]

/-! The word on the command port. -/

theorem fetchWord_toNat (w : Word16) : fetchWord 16 w.toNat = w := by
  apply BitVec.eq_of_toNat_eq
  rw [fetchWord, BitVec.toNat_ofNat, Nat.mod_mod, Nat.mod_eq_of_lt w.isLt]

/-! The steps without a command. -/

theorem step_of_rst {s : State} (h : s.rst = true) : step s = .next s.resetEdge := by
  simp [step, h]

theorem step_of_busy {s : State} (hrst : s.rst = false) (h : s.phase = .busy) : step s = busyStep s := by
  simp [step, hrst, h]

theorem step_of_responding {s : State} {r : Result} (hrst : s.rst = false) (h : s.phase = .responding r) :
    step s = .next (s.afterResponse r) := by
  simp [step, hrst, h]

theorem step_of_no_request {s : State} (hrst : s.rst = false) (h : s.phase = .idle) (hreq : s.reqValid = false) :
    step s = .next s.present := by
  simp [step, hrst, h, hreq]

/-- What the steps without a command, a reset aside, leave unchanged: everything but the phase, the input ports and the host. -/
structure SameBlock (s t : State) : Prop where
  params : t.params = s.params
  ppr : t.ppr = s.ppr
  ppm3 : t.ppm3 = s.ppm3
  atEn : t.atEn = s.atEn
  trace : t.trace = s.trace
  chip : t.chip = s.chip
  env : t.env = s.env

/-- The host's turn: a request, a reset or nothing is put on the input ports. -/
theorem State.present_frame (s : State) : SameBlock s s.present ∧ s.present.phase = s.phase := by
  unfold State.present
  split
  next => exact ⟨⟨rfl, rfl, rfl, rfl, rfl, rfl, rfl⟩, rfl⟩
  next =>
    unfold presentNext
    split <;> exact ⟨⟨rfl, rfl, rfl, rfl, rfl, rfl, rfl⟩, rfl⟩

theorem State.afterResponse_frame (s : State) (r : Result) :
    SameBlock s (s.afterResponse r) ∧ (s.afterResponse r).phase = .idle := by
  obtain ⟨hsame, hphase⟩ := State.present_frame { s with phase := .idle, host := s.host.receive s.params r }
  exact ⟨⟨hsame.params, hsame.ppr, hsame.ppm3, hsame.atEn, hsame.trace, hsame.chip, hsame.env⟩, hphase⟩

theorem reqReady_of_idle {s : State} (h : s.phase = .idle) : s.reqReady = true ∧ s.rspValid = false := by
  simp [State.reqReady, State.rspValid, h]

end Sys2Proof.Machine

namespace Sys2Proof
open Sys2Proof.Machine

/-- Settles O6: `withFetchWord` meets the conditions of acceptance, and the 16 bits of a word are the word. -/
theorem stepRunsTheDecodedCommand : Obligations.StepRunsTheDecodedCommand :=
  ⟨fun _ _ h hi => step_of_decode_ok h hi, fun _ w => ⟨⟨rfl, rfl, rfl⟩, fetchWord_toNat w⟩⟩

/-- Settles O41: the codes by the table, each port as a function of the response. -/
theorem responsePort : Obligations.ResponsePort := by
  refine ⟨by decide, fun s st h => ⟨?_, statusPort_of_response h, resPort_of_error h⟩, fun s v h h0 hv => ?value, fun s h => ?none⟩
  · rw [rspValid_eq_isSome, h]
    rfl
  case value =>
    have hres : s.resPort = some (resOf s.params.frac (.ok v)) := by rw [State.resPort, h]; rfl
    exact ⟨statusPort_of_response h, _, hres, toNat_resOf_of_lt h0 hv⟩
  case none =>
    rw [rspValid_eq_isSome, State.statusPort, State.resPort, h]
    exact ⟨rfl, rfl, rfl⟩

/-- Settles O51: at reset every channel has the default calibration, and nothing is listed, recorded or answered. -/
theorem resetMeetsTheInvariant : Obligations.ResetMeetsTheInvariant where
  calibration c := by
    have hppr : State.reset.ppr.get c = pprDefault := PerChannel.get_all _ c
    have hppm3 : State.reset.ppm3.get c = ppm3Default := PerChannel.get_all _ c
    rw [hppr, hppm3]
    decide
  image := rfl
  history := Nat.zero_le 4
  response := rfl

/-- Settles O52: the fields of `resetEdge`, of which the arrays hold one value on all channels. -/
theorem resetEdge : Obligations.ResetEdge := by
  intro s hrst
  refine ⟨s.resetEdge, step_of_rst hrst, fun c => ?arrays, rfl, rfl, rfl, rfl, rfl, fun _ => rfl, rfl, rfl⟩
  case arrays =>
    rw [State.resetEdge_ppr, State.resetEdge_ppm3, State.resetEdge_atEn, PerChannel.get_all, PerChannel.get_all, PerChannel.get_all]
    exact ⟨rfl, rfl, rfl⟩

/-- Settles O57: the end of the response cycle is the idle phase and the host's turn. -/
theorem handshakeAfterResponse : Obligations.HandshakeAfterResponse := by
  refine ⟨fun s r hrst hphase => ?response, fun s hphase => by simp [State.reqReady, State.rspValid, hphase]⟩
  case response =>
    obtain ⟨hsame, hidle⟩ := s.afterResponse_frame r
    obtain ⟨hready, hvalid⟩ := reqReady_of_idle hidle
    exact ⟨by simp [State.reqReady, hphase], by simp [State.rspValid, hphase], _, step_of_responding hrst hphase, hidle, hready, hvalid,
      hsame.ppr, hsame.ppm3, hsame.atEn, hsame.chip, hsame.env, hsame.params⟩

end Sys2Proof

/-! PROOFS. The identities and the monotonicity of the rates (41_unit_conversion.md R153, R155), from the one form that all fifteen rules have:
a constant of the tag times the pulses per second over the calibration value the tag reads (`rateValue_eq`). -/

namespace Sys2Proof.Machine

/-- Pulses per second fall as the count rises, where there is a signal. -/
theorem pulses_lt {sr c1 c2 : Nat} (hsr : 1 ≤ sr) (h1 : 1 ≤ c1) (h : c1 < c2) :
    ((sr * 8192 : Nat) : Rat) / (c2 : Rat) < ((sr * 8192 : Nat) : Rat) / (c1 : Rat) :=
  div_lt_div_of_pos_left (by exact_mod_cast Nat.mul_pos hsr (by decide)) (by exact_mod_cast h1) (by exact_mod_cast h)

/-- Every rate rises with the pulses per second. -/
theorem rateValue_lt (tag : RateTag) {p q : Rat} {ppr ppm3 : Nat} (hcal : 1 ≤ rateCalibration tag ppr ppm3) (h : p < q) :
    rateValue tag p ppr ppm3 < rateValue tag q ppr ppm3 := by
  have hcalRat : (0 : Rat) < (rateCalibration tag ppr ppm3 : Rat) := by exact_mod_cast hcal
  rw [rateValue_eq, rateValue_eq]
  exact div_lt_div_of_pos_right (mul_lt_mul_of_pos_left h (rateFactor_pos tag)) hcalRat

/-- A conversion that answers OK has a signal, and is its rate. -/
theorem conv_eq_ok {tag : RateTag} {count : BitVec 11} {sr ppr ppm3 : Nat} {v : Rat} (h : conv tag count sr ppr ppm3 = .ok v) :
    1 ≤ count.toNat ∧ v = rateValue tag (((sr * 8192 : Nat) : Rat) / (count.toNat : Rat)) ppr ppm3 := by
  rcases conv_cases tag count sr ppr ppm3 with ⟨_, hconv⟩ | ⟨hzero, _, hconv⟩ <;> cases hconv.symm.trans h
  exact ⟨Nat.one_le_iff_ne_zero.mpr hzero, rfl⟩

end Sys2Proof.Machine

namespace Sys2Proof
open Sys2Proof.Machine

/-- Settles O46: with a signal every tag has its value, and the identities are between these values. -/
theorem rateIdentities : Obligations.RateIdentities := by
  intro count sr ppr ppm3 _ hppr hppm3 h0 h1
  rw [Ne, BitVec.toNat_eq] at h0 h1
  have hn : (ppr : Rat) ≠ 0 := by exact_mod_cast Nat.one_le_iff_ne_zero.mp hppr
  have hm : (ppm3 : Rat) ≠ 0 := by exact_mod_cast Nat.one_le_iff_ne_zero.mp hppm3
  have hlitre : pulsesPerLitre ppm3 ≠ 0 := div_ne_zero hm (by norm_num)
  have hgallon : pulsesPerGallon ppm3 ≠ 0 := mul_ne_zero hm (by norm_num [gal_eq])
  refine ⟨fun tag => rateValue tag (((sr * 8192 : Nat) : Rat) / (count.toNat : Rat)) ppr ppm3,
    fun tag => conv_signal (not_or.mpr ⟨h0, h1⟩) tag sr ppr ppm3, ?_⟩
  generalize ((sr * 8192 : Nat) : Rat) / (count.toNat : Rat) = p
  refine ⟨rfl, rfl, mul_div_assoc _ _ _, mul_div_assoc _ _ _, div_mul_cancel₀ p hn, mul_div_assoc _ _ _, mul_div_assoc _ _ _, ?litres,
    rfl, rfl, ?gallons, rfl, rfl, mul_div_cancel₀ p hlitre, mul_div_cancel₀ p hgallon⟩
  case litres =>
    simp only [rateValue, pulsesPerLitre]
    field_simp
  case gallons =>
    simp only [rateValue, pulsesPerLitre, pulsesPerGallon, gal_eq]
    field_simp
    ring

/-- Settles O48: the larger count has fewer pulses per second, so the smaller rate. -/
theorem ratesDecreaseInCount : Obligations.RatesDecreaseInCount := by
  intro tag c1 c2 sr ppr ppm3 v1 v2 hsr hppr hppm3 hlt hv1 hv2
  obtain ⟨hpos, rfl⟩ := conv_eq_ok hv1
  obtain ⟨_, rfl⟩ := conv_eq_ok hv2
  have hcal := one_le_rateCalibration (tag := tag) (fun _ => hppr) fun _ => hppm3
  exact rateValue_lt tag hcal (pulses_lt (one_le_of_mem_srset hsr) hpos hlt)

end Sys2Proof

/-! PROOFS. The body of a command as a tree (42_get_commands.md, 43_set_commands.md). Between acceptance and response a command only issues
transactions, and what it does next depends on the data of those that succeeded and on what stood in the state when it was accepted. `Body` is
that decision tree, `Body.run` runs it on the bus of the model, and `exec_runs` says that every command is its tree. What a tree leaves alone,
which transactions it records and how it ends are then proved once, by induction on the tree. -/

namespace Sys2Proof.Machine

/-- What is left of a command: respond, or issue a transaction and go on with its data. -/
inductive Body where
  | respond (r : Result)
  | issue (op : BusOp) (next : Word16 → Body)

/-- A body on the bus: a failed transaction ends it with TransportError, one that does not complete leaves the block busy (20_memory.md R53, R54). -/
def Body.run : Body → State → State
  | .respond r, s => s.respond r
  | .issue op next, s => bus op s fun w u => (next w).run u

/-! The bodies of the commands. -/

/-- A step of the codec: its status, or the rest with its value. -/
def Body.withEncoded {α : Type} (e : Except Status α) (next : α → Body) : Body :=
  match e with
  | .ok a => next a
  | .error st => .respond (.error st)

/-- ReadSR (R161). -/
def Body.readSR (c : Channel) (u : SrUnmatched) (next : Nat → Body) : Body :=
  .issue (.bitRead (offDyn c) 7) fun b7 => .issue (.bitRead (offDyn c) 6) fun b6 => .issue (.bitRead (offDyn c) 5) fun b5 =>
    .withEncoded (decSR u (srByte (b7.getLsbD 0) (b6.getLsbD 0) (b5.getLsbD 0))) next

/-- A write as the last transaction of a SET. -/
def Body.lastWrite (op : BusOp) : Body := .issue op fun _ => .respond (.ok 0)

/-- RateGet (R164). -/
def Body.rateGet (tag : RateTag) (c : Channel) (s : State) : Body :=
  .issue (.memRead (offTach c)) fun w =>
    if (decTach w).toNat = 0 ∨ (decTach w).toNat = tachSat then .respond (.error .noSignal)
    else .readSR c s.params.srUnmatched fun sr => .respond (conv tag (decTach w) sr (pprOf s c) (ppm3Of s c))

/-- The rest of GET.TGT (R189). -/
def Body.targetGet (c : Channel) (t : BitVec 11) (s : State) : Body :=
  if t.toNat = 0 then .respond (.error .noSignal)
  else if t.toNat = tachSat ∧ s.params.tgtSentinelDecode = .zero then .respond (.ok 0)
  else .readSR c s.params.srUnmatched fun sr => .respond (tgtDec s.params.tgtSentinelDecode t sr (pprOf s c))

/-- SET.TGT (R206). -/
def Body.setTgt (c : Channel) (s : State) : Body :=
  if s.req.wnum = 0 then .lastWrite (.memWrite (offTgt c) sentinelWord)
  else .readSR c s.params.srUnmatched fun sr =>
    .withEncoded (tgtEnc s.req.wnum sr (pprOf s c)) fun t => .withEncoded (encTach t) fun w => .lastWrite (.memWrite (offTgt c) w)

/-- SET.SR with code `code` (R202). -/
def Body.setSr (c : Channel) (code : BitVec 3) : Body :=
  .issue (.bitWrite (offDyn c) 7 (code.getLsbD 2)) fun _ => .issue (.bitWrite (offDyn c) 6 (code.getLsbD 1)) fun _ =>
    .lastWrite (.bitWrite (offDyn c) 5 (code.getLsbD 0))

/-- The body of a GET or SET accepted at `s` on a legal channel. (SET.AT answers at once. A kernel has no channel; it never meets the last arm.) -/
def channelBody (i : Instr) (c : Channel) (s : State) : Body :=
  match i with
  | .getPwm _ => .issue (.memRead (offDutyRd s.params.dutyRdBase c)) fun w => .respond (.ok ((decDuty w).toNat : Rat))
  | .getSpd _ => .issue (.memRead (offDutyRd s.params.dutyRdBase c)) fun w => .respond (.ok (percentOf (decDuty w).toNat))
  | .getSr _ => .readSR c s.params.srUnmatched fun sr => .respond (.ok (sr : Rat))
  | .getPpr _ => .respond (.ok (pprOf s c : Rat))
  | .getPpm3 _ => .respond (.ok (ppm3Of s c : Rat))
  | .getPpl _ => .respond (.ok (pulsesPerLitre (ppm3Of s c)))
  | .getPpg _ => .respond (.ok (pulsesPerGallon (ppm3Of s c)))
  | .getTac _ => .issue (.memRead (offTach c)) fun w => .respond (.ok ((decTach w).toNat : Rat))
  | .getPps _ => .rateGet .pps c s
  | .getPpm _ => .rateGet .ppm c s
  | .getPph _ => .rateGet .pph c s
  | .getRps _ => .rateGet .rps c s
  | .getRpm _ => .rateGet .rpm c s
  | .getRph _ => .rateGet .rph c s
  | .getM3ps _ => .rateGet .m3ps c s
  | .getM3pm _ => .rateGet .m3pm c s
  | .getM3ph _ => .rateGet .m3ph c s
  | .getLps _ => .rateGet .lps c s
  | .getLpm _ => .rateGet .lpm c s
  | .getLph _ => .rateGet .lph c s
  | .getGps _ => .rateGet .gps c s
  | .getGpm _ => .rateGet .gpm c s
  | .getGph _ => .rateGet .gph c s
  | .getMode _ => .issue (.bitRead (offCfg c) 7) fun w => .respond (.ok ((w.getLsbD 0).toNat : Rat))
  | .getTgt _ => .issue (.memRead (offTgt c)) fun w => .targetGet c (decTach w) s
  | .getAt _ => .respond (.ok ((s.atEn.get c).toNat : Rat))
  | .setPwm _ => .withEncoded (encDuty s.req.wnum) fun w => .lastWrite (.memWrite (offDutySet c) w)
  | .setSr _ => .withEncoded (encSR s.req.wnum) (.setSr c)
  | .setPpr _ | .setPpm3 _ => .respond (if legalCal s.req.wdata then .ok 0 else .error .invalidArgument)
  | .setMode _ => .lastWrite (.bitWrite (offCfg c) 7 s.req.wbit)
  | .setTgt _ => .setTgt c s
  | _ => .respond (.ok 0)

/-! The calibration state a body starts with: the three setters have written it (R203, R204, R207), every other command finds it as it was. -/

def startPpr (i : Instr) (c : Channel) (s : State) : PerChannel Word32 :=
  match i with
  | .setPpr _ => if legalCal s.req.wdata then s.ppr.set c s.req.wdata else s.ppr
  | _ => s.ppr

def startPpm3 (i : Instr) (c : Channel) (s : State) : PerChannel Word32 :=
  match i with
  | .setPpm3 _ => if legalCal s.req.wdata then s.ppm3.set c s.req.wdata else s.ppm3
  | _ => s.ppm3

def startAtEn (i : Instr) (c : Channel) (s : State) : PerChannel Bool :=
  match i with
  | .setAt _ => s.atEn.set c s.req.wbit
  | _ => s.atEn

/-- The state in which the body of a GET or SET starts. -/
def start (i : Instr) (c : Channel) (s : State) : State :=
  { s.accept with ppr := startPpr i c s, ppm3 := startPpm3 i c s, atEn := startAtEn i c s }

/-! What no transaction, no response and no wait changes. -/

/-- `u` is reached from `s` by accepting the request there and issuing transactions. -/
structure Kept (s u : State) : Prop where
  params : u.params = s.params
  ppr : u.ppr = s.ppr
  ppm3 : u.ppm3 = s.ppm3
  atEn : u.atEn = s.atEn
  rst : u.rst = s.rst
  reqValid : u.reqValid = false
  req : u.req = s.req
  host : u.host = s.host

theorem kept_accept (s : State) : Kept s s.accept := ⟨rfl, rfl, rfl, rfl, rfl, rfl, rfl, rfl⟩

theorem Kept.issue {s u : State} (h : Kept s u) (op : BusOp) : Kept s (issue u op).2 :=
  ⟨h.params, h.ppr, h.ppm3, h.atEn, h.rst, h.reqValid, h.req, h.host⟩

theorem Kept.withPhase {s u : State} (h : Kept s u) (ph : Phase) : Kept s { u with phase := ph } :=
  ⟨h.params, h.ppr, h.ppm3, h.atEn, h.rst, h.reqValid, h.req, h.host⟩

theorem Kept.pprOf_eq {s u : State} (h : Kept s u) (c : Channel) : pprOf u c = pprOf s c := by rw [pprOf, pprOf, h.ppr]

theorem Kept.ppm3Of_eq {s u : State} (h : Kept s u) (c : Channel) : ppm3Of u c = ppm3Of s c := by rw [ppm3Of, ppm3Of, h.ppm3]

/-! A command runs its body. The model reads parameters and calibration from the state it has reached; `Kept` says that it reads there what
stood in the state at acceptance. -/

/-- Only the state after the transaction matters to the rest. -/
theorem run_issue_of_kept {s u : State} {op : BusOp} {k : Word16 → State → State} {next : Word16 → Body} (hu : Kept s u)
    (hk : ∀ w v, Kept s v → k w v = (next w).run v) : bus op u k = (Body.issue op next).run u := by
  rw [Body.run, bus, bus]
  rcases hi : issue u op with ⟨o, v⟩
  have hv : Kept s v := by simpa only [hi] using hu.issue op
  cases o with
  | done w => exact hk w v hv
  | failed | pending => rfl

theorem run_ite {p : Prop} [Decidable p] {u x y : State} {b b' : Body} (hx : x = b.run u) (hy : y = b'.run u) :
    (if p then x else y) = (if p then b else b').run u := by
  split
  · exact hx
  · exact hy

theorem run_withEncoded_of_kept {α : Type} {e : Except Status α} {u : State} {k : α → State} {next : α → Body}
    (hk : ∀ a, k a = (next a).run u) : withEncoded e u k = (Body.withEncoded e next).run u := by
  cases e with
  | ok a => exact hk a
  | error st => rfl

theorem run_readSR_of_kept {s u : State} {c : Channel} {k : Nat → State → State} {next : Nat → Body} (hu : Kept s u)
    (hk : ∀ sr v, Kept s v → k sr v = (next sr).run v) : readSR c u k = (Body.readSR c s.params.srUnmatched next).run u := by
  refine run_issue_of_kept hu fun b7 u hu => run_issue_of_kept hu fun b6 u hu => run_issue_of_kept hu fun b5 u hu => ?_
  dsimp only
  rw [hu.params]
  cases decSR s.params.srUnmatched (srByte (b7.getLsbD 0) (b6.getLsbD 0) (b5.getLsbD 0)) with
  | ok sr => exact hk sr u hu
  | error st => rfl

theorem run_rateGet_of_kept {s u : State} (tag : RateTag) (c : Channel) (hu : Kept s u) :
    rateGet tag c u = (Body.rateGet tag c s).run u := by
  refine run_issue_of_kept hu fun w u hu => run_ite rfl (run_readSR_of_kept hu fun sr u hu => ?_)
  rw [hu.pprOf_eq, hu.ppm3Of_eq]
  rfl

theorem run_targetGet_of_kept {s u : State} (c : Channel) (t : BitVec 11) (hu : Kept s u) :
    targetGet c t u = (Body.targetGet c t s).run u := by
  rw [targetGet, Body.targetGet, hu.params]
  split
  · rfl
  split
  · rfl
  · refine run_readSR_of_kept hu fun sr u hu => ?_
    rw [hu.pprOf_eq, hu.params]
    rfl

/-- The end of the five SETs that write a register. -/
theorem run_lastWrite_of_kept {s u : State} (op : BusOp) (hu : Kept s u) :
    bus op u (fun _ v => v.ok 0) = (Body.lastWrite op).run u :=
  run_issue_of_kept hu fun _ _ _ => rfl

/-- A GET or SET on a legal channel. -/
theorem exec_channel {i : Instr} {ch : BitVec 3} {c : Channel} (hi : i.channel = some ch) (hc : channelOf ch = some c) (s : State) :
    exec i s = .next ((channelBody i c s).run (start i c s)) := by
  have hlegal {body : Channel → State → State} {t : State} (h : body c s.accept = t) : channelCommand ch s body = .next t :=
    h ▸ channelCommand_legal s body hc
  have hk := kept_accept s
  unfold exec
  cases i with
  | getPwm | getSpd | getTac | getMode =>
    cases hi
    exact hlegal (run_issue_of_kept hk fun _ _ _ => rfl)
  | getSr =>
    cases hi
    exact hlegal (run_readSR_of_kept hk fun _ _ _ => rfl)
  | getPpr | getPpm3 | getPpl | getPpg | getAt | setAt =>
    cases hi
    exact hlegal rfl
  | getPps | getPpm | getPph | getRps | getRpm | getRph | getM3ps | getM3pm | getM3ph | getLps | getLpm | getLph | getGps | getGpm | getGph =>
    cases hi
    exact hlegal (run_rateGet_of_kept _ c hk)
  | getTgt =>
    cases hi
    exact hlegal (run_issue_of_kept hk fun w u hu => run_targetGet_of_kept c (decTach w) hu)
  | setPwm =>
    cases hi
    exact hlegal (run_withEncoded_of_kept fun w => run_lastWrite_of_kept _ hk)
  | setSr =>
    cases hi
    exact hlegal (run_withEncoded_of_kept fun code => run_issue_of_kept hk fun _ u hu => run_issue_of_kept hu fun _ u hu =>
      run_lastWrite_of_kept _ hu)
  | setMode =>
    cases hi
    exact hlegal (run_lastWrite_of_kept _ hk)
  | setPpr =>
    cases hi
    refine hlegal ?_
    rw [channelBody, start, startPpr]
    cases hcal : legalCal s.req.wdata <;> simp only [State.accept_req, hcal] <;> rfl
  | setPpm3 =>
    cases hi
    refine hlegal ?_
    rw [channelBody, start, startPpm3]
    cases hcal : legalCal s.req.wdata <;> simp only [State.accept_req, hcal] <;> rfl
  | setTgt =>
    cases hi
    refine hlegal ?_
    rw [channelBody, Body.setTgt]
    refine run_ite (run_lastWrite_of_kept _ hk) (run_readSR_of_kept hk fun sr u hu => ?_)
    rw [hu.req, hu.pprOf_eq]
    exact run_withEncoded_of_kept fun t => run_withEncoded_of_kept fun w => run_lastWrite_of_kept _ hu
  | _ => cases hi

end Sys2Proof.Machine

/-! PROOFS. What a body can do. `Body.Within p q n` bounds a tree: transactions in `p`, responses in `q`, at most `n` transactions in a row.
`Body.Shows` is what running it shows, the recorded transactions and the phase; `Body.Answers` is the part of it where all of them succeeded.
`MayIssue` and `MayAnswer` are the table of the commands, and `channelBody_within` says that every body keeps to its row. -/

namespace Sys2Proof.Machine

/-! Bounds of a tree. -/

/-- Every transaction satisfies `p`, every response `q`, and no path has more than `n` transactions. -/
def Body.Within (p : BusOp → Prop) (q : Result → Prop) : Nat → Body → Prop
  | _, .respond r => q r
  | 0, .issue _ _ => False
  | n + 1, .issue op next => p op ∧ ∀ w, (next w).Within p q n

theorem Body.within_respond {p : BusOp → Prop} {q : Result → Prop} {r : Result} (n : Nat) (hr : q r) :
    (Body.respond r).Within p q n := by
  cases n <;> exact hr

theorem Body.within_withEncoded {α : Type} {p : BusOp → Prop} {q : Result → Prop} {n : Nat} {e : Except Status α} {next : α → Body}
    (hnext : ∀ a, e = .ok a → (next a).Within p q n) (he : ∀ st, e = .error st → q (.error st)) :
    (Body.withEncoded e next).Within p q n := by
  cases e with
  | ok a => exact hnext a rfl
  | error st => exact within_respond n (he st rfl)

theorem Body.within_readSR {p : BusOp → Prop} {q : Result → Prop} {n : Nat} {c : Channel} {u : SrUnmatched} {next : Nat → Body}
    (hp : ∀ op ∈ srReads c, p op) (hq : q (.error .unrecognizedEncoding)) (hnext : ∀ sr, (next sr).Within p q n) :
    (Body.readSR c u next).Within p q (n + 3) := by
  simp only [srReads, List.forall_mem_cons, List.not_mem_nil, false_implies, implies_true, and_true] at hp
  obtain ⟨h7, h6, h5⟩ := hp
  exact ⟨h7, fun b7 => ⟨h6, fun b6 => ⟨h5, fun b5 => within_withEncoded (fun sr _ => hnext sr) fun st hst => decSR_error hst ▸ hq⟩⟩⟩

theorem Body.within_lastWrite {p : BusOp → Prop} {q : Result → Prop} {op : BusOp} (n : Nat) (hp : p op) (hq : q (.ok 0)) :
    (Body.lastWrite op).Within p q (n + 1) :=
  ⟨hp, fun _ => within_respond n hq⟩

theorem Body.within_ite {p : BusOp → Prop} {q : Result → Prop} {n : Nat} {c : Prop} [Decidable c] {b b' : Body}
    (hb : c → b.Within p q n) (hb' : ¬c → b'.Within p q n) : (if c then b else b').Within p q n := by
  split
  next h => exact hb h
  next h => exact hb' h

/-! What running a tree shows. -/

/-- A transaction that succeeded. -/
def doneTransaction (dev : Nat) (op : BusOp) (w : Word16) : Transaction := ⟨dev, op, .done w⟩

/-- The transactions and the response of a body all of whose transactions succeed. -/
inductive Body.Answers (dev : Nat) : Body → List Transaction → Result → Prop
  | respond (r : Result) : Answers dev (.respond r) [] r
  | issue {op : BusOp} {next : Word16 → Body} {w : Word16} {l : List Transaction} {r : Result} (h : Answers dev (next w) l r) :
      Answers dev (.issue op next) (doneTransaction dev op w :: l) r

/-- The transactions a body records and the phase it leaves. -/
inductive Body.Shows (dev : Nat) : Body → List Transaction → Phase → Prop
  | respond (r : Result) : Shows dev (.respond r) [] (.responding r)
  | done {op : BusOp} {next : Word16 → Body} {w : Word16} {l : List Transaction} {ph : Phase} (h : Shows dev (next w) l ph) :
      Shows dev (.issue op next) (doneTransaction dev op w :: l) ph
  | failed {op : BusOp} {next : Word16 → Body} : Shows dev (.issue op next) [⟨dev, op, .failed⟩] (.responding (.error .transportError))
  | pending {op : BusOp} {next : Word16 → Body} : Shows dev (.issue op next) [⟨dev, op, .pending⟩] .busy

/-- What a run of a body shows. -/
theorem Body.run_shows (b : Body) (s : State) :
    ∃ l, (b.run s).trace = s.trace ++ l ∧ b.Shows s.params.devAddr l (b.run s).phase := by
  induction b generalizing s with
  | respond r => exact ⟨[], (List.append_nil _).symm, .respond r⟩
  | issue op next ih =>
    rcases bus_cases op s fun w u => (next w).run u with ⟨w, hop, hbus⟩ | ⟨hop, hbus⟩ | ⟨hop, hbus⟩ <;>
      rw [Body.run, hbus]
    · obtain ⟨l, htrace, hshows⟩ := ih w (Machine.issue s op).2
      refine ⟨doneTransaction s.params.devAddr op w :: l, ?_, .done hshows⟩
      rw [htrace, issue_trace, hop, List.append_assoc]
      rfl
    · refine ⟨_, ?_, .failed⟩
      rw [State.raise_trace, issue_trace, hop]
    · refine ⟨_, ?_, .pending⟩
      rw [State.hang_trace, issue_trace, hop]

/-- Where no transaction failed or hangs, the body answers. -/
theorem Body.Shows.answers {dev : Nat} {b : Body} {l : List Transaction} {ph : Phase} (h : b.Shows dev l ph)
    (hl : ∀ x ∈ l, ∃ w, x.outcome = .done w) : ∃ r, ph = .responding r ∧ b.Answers dev l r := by
  induction h with
  | respond r => exact ⟨r, rfl, .respond r⟩
  | done h ih =>
    obtain ⟨r, hph, hr⟩ := ih fun x hx => hl x (List.mem_cons_of_mem _ hx)
    exact ⟨r, hph, .issue hr⟩
  | failed | pending =>
    obtain ⟨w, hw⟩ := hl _ (List.mem_singleton_self _)
    cases hw

/-- A response other than TransportError is one of the tree. -/
theorem Body.Shows.answers_of_ne {dev : Nat} {b : Body} {l : List Transaction} {r : Result} (h : b.Shows dev l (.responding r))
    (hr : r ≠ .error .transportError) : b.Answers dev l r := by
  generalize hph : Phase.responding r = ph at h
  induction h with
  | respond r' => cases hph; exact .respond r
  | done h ih => exact .issue (ih hph)
  | failed => cases hph; exact absurd rfl hr
  | pending => cases hph

/-- A body ends with a response, or waits for its last transaction. -/
theorem Body.Shows.phase {dev : Nat} {b : Body} {l : List Transaction} {ph : Phase} (h : b.Shows dev l ph) :
    (∃ r, ph = .responding r) ∨ (ph = .busy ∧ ∃ x ∈ l, x.outcome = .pending) := by
  induction h with
  | respond r => exact .inl ⟨r, rfl⟩
  | done h ih => exact ih.imp id fun ⟨hph, x, hx, hpending⟩ => ⟨hph, x, List.mem_cons_of_mem _ hx, hpending⟩
  | failed => exact .inl ⟨_, rfl⟩
  | pending => exact .inr ⟨rfl, _, List.mem_singleton_self _, rfl⟩

theorem Body.Within.length_le {p : BusOp → Prop} {q : Result → Prop} {n dev : Nat} {b : Body} {l : List Transaction} {ph : Phase}
    (hb : b.Within p q n) (h : b.Shows dev l ph) : l.length ≤ n := by
  induction h generalizing n with
  | respond r => exact Nat.zero_le n
  | done h ih =>
    cases n with
    | zero => cases hb
    | succ n => exact Nat.succ_le_succ (ih (hb.2 _))
  | failed | pending =>
    cases n with
    | zero => cases hb
    | succ n => exact Nat.succ_le_succ (Nat.zero_le n)

theorem Body.Within.transaction {p : BusOp → Prop} {q : Result → Prop} {n dev : Nat} {b : Body} {l : List Transaction} {ph : Phase}
    (hb : b.Within p q n) (h : b.Shows dev l ph) : ∀ x ∈ l, x.dev = dev ∧ p x.op := by
  induction h generalizing n with
  | respond r => nofun
  | done h ih =>
    cases n with
    | zero => cases hb
    | succ n => exact List.forall_mem_cons.mpr ⟨⟨rfl, hb.1⟩, ih (hb.2 _)⟩
  | failed | pending =>
    cases n with
    | zero => cases hb
    | succ n => exact List.forall_mem_singleton.mpr ⟨rfl, hb.1⟩

theorem Body.Within.answer {p : BusOp → Prop} {q : Result → Prop} {n dev : Nat} {b : Body} {l : List Transaction} {r : Result}
    (hb : b.Within p q n) (h : b.Answers dev l r) : q r := by
  induction h generalizing n with
  | respond r => cases n <;> exact hb
  | issue h ih =>
    cases n with
    | zero => cases hb
    | succ n => exact ih (hb.2 _)

/-! What running a tree keeps. -/

/-- What every transaction in `p` keeps, and what does not depend on the phase, a body within `p` keeps. -/
theorem Body.Within.run_keeps {p : BusOp → Prop} {q : Result → Prop} {n : Nat} {b : Body} {Q : State → Prop} (hb : b.Within p q n)
    (hissue : ∀ u op, p op → Q u → Q (Machine.issue u op).2) (hphase : ∀ u ph, Q u → Q { u with phase := ph }) {s : State} (hs : Q s) :
    Q (b.run s) := by
  induction b generalizing n s with
  | respond r => exact hphase s _ hs
  | issue op next ih =>
    cases n with
    | zero => cases hb
    | succ n =>
      obtain ⟨hop, hnext⟩ := hb
      have hafter := hissue s op hop hs
      exact bus_post op s _ (fun w _ => ih w (hnext w) hafter) (hphase _ _ hafter) (hphase _ _ hafter)

/-! The table of the commands. -/

/-- The transactions a GET or SET accepted at `s` may issue on channel `c` (42_get_commands.md, 43_set_commands.md). -/
def MayIssue (i : Instr) (c : Channel) (s : State) (op : BusOp) : Prop :=
  match i with
  | .getPwm _ | .getSpd _ => op = .memRead (offDutyRd s.params.dutyRdBase c)
  | .getSr _ => op ∈ srReads c
  | .getTac _ => op = .memRead (offTach c)
  | .getPps _ | .getPpm _ | .getPph _ | .getRps _ | .getRpm _ | .getRph _ | .getM3ps _ | .getM3pm _ | .getM3ph _
  | .getLps _ | .getLpm _ | .getLph _ | .getGps _ | .getGpm _ | .getGph _ => op ∈ rateReads c
  | .getMode _ => op = .bitRead (offCfg c) 7
  | .getTgt _ => op = .memRead (offTgt c) ∨ op ∈ srReads c
  | .setPwm _ => ∃ w, op = .memWrite (offDutySet c) w
  | .setSr _ => ∃ j b, op = .bitWrite (offDyn c) j b ∧ (j = 7 ∨ j = 6 ∨ j = 5)
  | .setMode _ => ∃ b, op = .bitWrite (offCfg c) 7 b
  | .setTgt _ => op ∈ srReads c ∨ ∃ w, op = .memWrite (offTgt c) w
  | _ => False

/-- The statuses a command may raise, InvalidChannel and the TransportError of its transactions aside (60_exceptions.md R244, R245, R247). -/
def raisable : Instr → List Status
  | .getSr _ | .kdecSr => [.unrecognizedEncoding]
  | .getPps _ | .getPpm _ | .getPph _ | .getRps _ | .getRpm _ | .getRph _ | .getM3ps _ | .getM3pm _ | .getM3ph _
  | .getLps _ | .getLpm _ | .getLph _ | .getGps _ | .getGpm _ | .getGph _ | .getTgt _ => [.noSignal, .unrecognizedEncoding]
  | .setPwm _ | .setSr _ | .setPpr _ | .setPpm3 _ => [.invalidArgument]
  | .setTgt _ => [.invalidArgument, .unrecognizedEncoding]
  | .kconvSpd | .kconvPpl | .kconvPpg | .kencSr | .kencDuty | .kencTach | .ktgtEnc => [.invalidArgument]
  | .kconvPps | .kconvPpm | .kconvPph | .kconvRps | .kconvRpm | .kconvRph | .kconvM3ps | .kconvM3pm | .kconvM3ph
  | .kconvLps | .kconvLpm | .kconvLph | .kconvGps | .kconvGpm | .kconvGph | .ktgtDec => [.invalidArgument, .noSignal]
  | _ => []

/-- A response of a command, InvalidChannel and TransportError aside. -/
def MayAnswer (i : Instr) (r : Result) : Prop := ∀ st, r = .error st → st ∈ raisable i

theorem mayAnswer_ok (i : Instr) (v : Rat) : MayAnswer i (.ok v) := nofun

theorem mayAnswer_error {i : Instr} {st : Status} (h : st ∈ raisable i) : MayAnswer i (.error st) :=
  fun _ hst => Except.error.inj hst ▸ h

theorem MayAnswer.ite {i : Instr} {p : Prop} [Decidable p] {r r' : Result} (hr : MayAnswer i r) (hr' : MayAnswer i r') :
    MayAnswer i (if p then r else r') := by
  split
  · exact hr
  · exact hr'

/-- The encoders fail in one way. -/
theorem encSR_error {sr : Nat} {st : Status} (h : encSR sr = .error st) : st = .invalidArgument := by
  by_cases hsr : sr ∈ [1, 2, 4, 8, 16, 32]
  · obtain ⟨k, hk, rfl⟩ := mem_srset_iff.mp hsr
    cases (encSR_two_pow hk).symm.trans h
  · exact (Except.error.inj ((encSR_of_not_mem hsr).symm.trans h)).symm

theorem encDuty_error {v : Nat} {st : Status} (h : encDuty v = .error st) : st = .invalidArgument := by
  unfold encDuty at h
  split at h
  · cases h
    rfl
  · cases h

theorem encTach_error {t : Nat} {st : Status} (h : encTach t = .error st) : st = .invalidArgument := by
  unfold encTach at h
  split at h
  · cases h
    rfl
  · cases h

theorem tgtEnc_error {rpm sr ppr : Nat} {st : Status} (h : tgtEnc rpm sr ppr = .error st) : st = .invalidArgument := by
  unfold tgtEnc at h
  split at h
  · cases h
  · dsimp only at h
    split at h <;> cases h
    rfl

theorem conv_error {tag : RateTag} {count : BitVec 11} {sr ppr ppm3 : Nat} {st : Status}
    (h : conv tag count sr ppr ppm3 = .error st) : st = .noSignal := by
  rcases conv_cases tag count sr ppr ppm3 with ⟨_, hconv⟩ | ⟨_, _, hconv⟩ <;> cases hconv.symm.trans h
  rfl

theorem tgtDec_error {m : TgtSentinelDecode} {t : BitVec 11} {sr ppr : Nat} {st : Status} (h : tgtDec m t sr ppr = .error st) :
    st = .noSignal := by
  unfold tgtDec at h
  split_ifs at h
  cases h
  rfl

/-- A kernel answers from the accepted state, within its row of the table. -/
theorem exec_kernel_mayAnswer {i : Instr} (hi : i.isKernel = true) (s : State) :
    ∃ r, exec i s = .next (s.accept.respond r) ∧ MayAnswer i r := by
  cases i with
  | kconvSpd => exact ⟨_, exec_kconvSpd s, .ite (mayAnswer_error List.mem_cons_self) (mayAnswer_ok _ _)⟩
  | kconvPpl => exact ⟨_, exec_kconvPpl s, .ite (mayAnswer_error List.mem_cons_self) (mayAnswer_ok _ _)⟩
  | kconvPpg => exact ⟨_, exec_kconvPpg s, .ite (mayAnswer_error List.mem_cons_self) (mayAnswer_ok _ _)⟩
  | kconvPps | kconvPpm | kconvPph | kconvRps | kconvRpm | kconvRph | kconvM3ps | kconvM3pm | kconvM3ph
  | kconvLps | kconvLpm | kconvLph | kconvGps | kconvGpm | kconvGph =>
    exact ⟨_, rfl, .ite (fun _ hst => conv_error hst ▸ List.mem_cons_of_mem _ List.mem_cons_self) (mayAnswer_error List.mem_cons_self)⟩
  | kdecMode => exact ⟨_, exec_kdecMode s, mayAnswer_ok _ _⟩
  | kdecSr => exact ⟨_, exec_kdecSr s, .ite (mayAnswer_ok _ _) (.ite (mayAnswer_ok _ _) (mayAnswer_error List.mem_cons_self))⟩
  | kdecDuty => exact ⟨_, exec_kdecDuty s, mayAnswer_ok _ _⟩
  | kdecTach => exact ⟨_, exec_kdecTach s, mayAnswer_ok _ _⟩
  | kencSr => exact ⟨_, exec_kencSr s, .ite (mayAnswer_ok _ _) (mayAnswer_error List.mem_cons_self)⟩
  | kencDuty => exact ⟨_, exec_kencDuty s, .ite (mayAnswer_ok _ _) (mayAnswer_error List.mem_cons_self)⟩
  | kencTach => exact ⟨_, exec_kencTach s, .ite (mayAnswer_ok _ _) (mayAnswer_error List.mem_cons_self)⟩
  | ktgtEnc =>
    have hinvalid := mayAnswer_error (i := .ktgtEnc) (st := .invalidArgument) List.mem_cons_self
    exact ⟨_, exec_ktgtEnc s, .ite hinvalid (.ite (mayAnswer_ok _ _) (.ite (mayAnswer_ok _ _) hinvalid))⟩
  | ktgtDec =>
    exact ⟨_, exec_ktgtDec s, .ite (mayAnswer_error List.mem_cons_self) (.ite
      (mayAnswer_error (List.mem_cons_of_mem _ List.mem_cons_self)) (.ite (mayAnswer_ok _ _) (mayAnswer_ok _ _)))⟩
  | _ => cases hi

theorem within_rateGet {i : Instr} {c : Channel} {s : State} (tag : RateTag) (hissue : ∀ op ∈ rateReads c, MayIssue i c s op)
    (hno : .noSignal ∈ raisable i) (hunrec : .unrecognizedEncoding ∈ raisable i) :
    (Body.rateGet tag c s).Within (MayIssue i c s) (MayAnswer i) 4 := by
  obtain ⟨htach, hreads⟩ := List.forall_mem_cons.mp hissue
  exact ⟨htach, fun w => Body.within_ite (fun _ => Body.within_respond 3 (mayAnswer_error hno)) fun _ =>
    Body.within_readSR (n := 0) hreads (mayAnswer_error hunrec) fun sr st hst => conv_error hst ▸ hno⟩

theorem within_targetGet {ch : BitVec 3} (c : Channel) (s : State) (t : BitVec 11) :
    (Body.targetGet c t s).Within (MayIssue (.getTgt ch) c s) (MayAnswer (.getTgt ch)) 3 :=
  Body.within_ite (fun _ => Body.within_respond 3 (mayAnswer_error List.mem_cons_self)) fun _ =>
    Body.within_ite (fun _ => Body.within_respond 3 (mayAnswer_ok _ 0)) fun _ =>
      Body.within_readSR (n := 0) (fun _ hop => .inr hop) (mayAnswer_error (List.mem_cons_of_mem _ List.mem_cons_self)) fun _ _ hst =>
        tgtDec_error hst ▸ List.mem_cons_self

theorem within_setSr {ch : BitVec 3} (c : Channel) (s : State) (code : BitVec 3) :
    (Body.setSr c code).Within (MayIssue (.setSr ch) c s) (MayAnswer (.setSr ch)) 4 :=
  ⟨⟨7, _, rfl, .inl rfl⟩, fun _ => ⟨⟨6, _, rfl, .inr (.inl rfl)⟩, fun _ =>
    Body.within_lastWrite 1 ⟨5, _, rfl, .inr (.inr rfl)⟩ (mayAnswer_ok _ 0)⟩⟩

theorem within_setTgt {ch : BitVec 3} (c : Channel) (s : State) :
    (Body.setTgt c s).Within (MayIssue (.setTgt ch) c s) (MayAnswer (.setTgt ch)) 4 :=
  Body.within_ite (fun _ => Body.within_lastWrite 3 (.inr ⟨_, rfl⟩) (mayAnswer_ok _ 0)) fun _ =>
    Body.within_readSR (n := 1) (fun _ hop => .inl hop) (mayAnswer_error (List.mem_cons_of_mem _ List.mem_cons_self)) fun _ =>
      Body.within_withEncoded (fun _ _ => Body.within_withEncoded
        (fun _ _ => Body.within_lastWrite 0 (.inr ⟨_, rfl⟩) (mayAnswer_ok _ 0))
        fun _ hst => encTach_error hst ▸ mayAnswer_error List.mem_cons_self) fun _ hst => tgtEnc_error hst ▸ mayAnswer_error List.mem_cons_self

/-- Every body keeps to its row of the table, with at most four transactions. -/
theorem channelBody_within (i : Instr) (c : Channel) (s : State) :
    (channelBody i c s).Within (MayIssue i c s) (MayAnswer i) 4 := by
  cases i with
  | getPwm | getSpd | getTac | getMode => exact ⟨rfl, fun _ => mayAnswer_ok _ _⟩
  | getSr => exact Body.within_readSR (n := 1) (fun _ hop => hop) (mayAnswer_error List.mem_cons_self) fun sr => mayAnswer_ok _ _
  | getPps | getPpm | getPph | getRps | getRpm | getRph | getM3ps | getM3pm | getM3ph | getLps | getLpm | getLph | getGps | getGpm | getGph =>
    exact within_rateGet _ (fun _ hop => hop) List.mem_cons_self (List.mem_cons_of_mem _ List.mem_cons_self)
  | getTgt => exact ⟨.inl rfl, fun w => within_targetGet c s (decTach w)⟩
  | setPwm =>
    exact Body.within_withEncoded (fun w _ => Body.within_lastWrite 3 ⟨w, rfl⟩ (mayAnswer_ok _ 0)) fun st hst =>
      encDuty_error hst ▸ mayAnswer_error List.mem_cons_self
  | setSr =>
    exact Body.within_withEncoded (fun code _ => within_setSr c s code) fun st hst => encSR_error hst ▸ mayAnswer_error List.mem_cons_self
  | setPpr | setPpm3 =>
    refine Body.within_respond 4 ?_
    split
    · exact mayAnswer_ok _ 0
    · exact mayAnswer_error List.mem_cons_self
  | setMode => exact Body.within_lastWrite 3 ⟨_, rfl⟩ (mayAnswer_ok _ 0)
  | setTgt => exact within_setTgt c s
  | _ => exact mayAnswer_ok _ _

end Sys2Proof.Machine

/-! PROOFS. Every command as the run of a body (`exec_runs`), and the statements that follow from the bounds of the bodies: every request is
answered (30_encoding.md section 3), a hung command waits for its last transaction (20_memory.md R53), the transactions stay on the map
(20_memory.md R59, R60), every step keeps the invariant, and the calibration state has one writer (10_state.md R21 to R23). -/

namespace Sys2Proof.Machine

/-! Every command. -/

/-- The body a command accepted at `s` runs, and the state it runs it from. -/
inductive Runs (i : Instr) (s : State) : Body → State → Prop
  /-- A kernel answers at once (40_field_codec.md R110). -/
  | kernel {r : Result} (hi : i.isKernel = true) (hr : MayAnswer i r) : Runs i s (.respond r) s.accept
  /-- A GET or SET with channel 0 or 7 (60_exceptions.md R243). -/
  | badChannel {ch : BitVec 3} (hi : i.channel = some ch) (hch : legalChannel ch = false) :
      Runs i s (.respond (.error .invalidChannel)) s.accept
  /-- A GET or SET on a legal channel. -/
  | onChannel {ch : BitVec 3} {c : Channel} (hi : i.channel = some ch) (hch : ch.toNat = c.index + 1) :
      Runs i s (channelBody i c s) (start i c s)

theorem isKernel_of_channel_eq_none {i : Instr} (h : i.channel = none) : i.isKernel = true := by
  cases i <;> cases h <;> rfl

/-- The commands with a channel are the others. -/
theorem isKernel_of_channel_eq_some {i : Instr} {ch : BitVec 3} (h : i.channel = some ch) : i.isKernel = false := by
  cases i <;> cases h <;> rfl

/-- Every command runs a body; no command faults or is refused. -/
theorem exec_runs (i : Instr) (s : State) : ∃ b u, Runs i s b u ∧ exec i s = .next (b.run u) := by
  cases hi : i.channel with
  | none =>
    obtain ⟨r, hexec, hr⟩ := exec_kernel_mayAnswer (isKernel_of_channel_eq_none hi) s
    exact ⟨_, _, .kernel (isKernel_of_channel_eq_none hi) hr, hexec⟩
  | some ch =>
    cases hc : channelOf ch with
    | none => exact ⟨_, _, .badChannel hi (channelOf_eq_none.mp hc), exec_of_illegal_channel s hi (channelOf_eq_none.mp hc)⟩
    | some c => exact ⟨_, _, .onChannel hi (index_of_channelOf hc), exec_channel hi hc s⟩

theorem runs_of_exec {i : Instr} {s t : State} (h : exec i s = .next t) : ∃ b u, Runs i s b u ∧ t = b.run u := by
  obtain ⟨b, u, hruns, hexec⟩ := exec_runs i s
  cases hexec.symm.trans h
  exact ⟨b, u, hruns, rfl⟩

/-- A command on a legal channel runs its channel body. -/
theorem eq_run_of_exec {i : Instr} {s t : State} {ch : BitVec 3} {c : Channel} (h : exec i s = .next t) (hi : i.channel = some ch)
    (hch : ch.toNat = c.index + 1) : t = (channelBody i c s).run (start i c s) :=
  Host.Outcome.next.inj (h.symm.trans (exec_channel hi (channelOf_of_index hch) s))

/-- A body starts from the accepted state, with the calibration state that `start` says. -/
structure Started (s u : State) : Prop where
  params : u.params = s.params
  rst : u.rst = s.rst
  reqValid : u.reqValid = false
  req : u.req = s.req
  host : u.host = s.host
  trace : u.trace = []
  chip : u.chip = s.chip
  env : u.env = s.env

theorem Runs.started {i : Instr} {s u : State} {b : Body} (h : Runs i s b u) : Started s u := by
  cases h <;> exact ⟨rfl, rfl, rfl, rfl, rfl, rfl, rfl, rfl⟩

/-- What a body leaves unchanged, whatever it does. -/
theorem Body.run_kept (b : Body) {s u : State} (hu : Kept s u) : Kept s (b.run u) := by
  induction b generalizing u with
  | respond r => exact hu.withPhase _
  | issue op next ih =>
    have hafter := hu.issue op
    exact bus_post op u _ (fun w _ => ih w hafter) (hafter.withPhase _) (hafter.withPhase _)

/-- A command leaves the parameters, `rst`, the request record and the host alone, takes the request, and has the calibration state its
body starts with. -/
theorem Runs.kept {i : Instr} {s u : State} {b : Body} (h : Runs i s b u) : Kept u (b.run u) := by
  have hstarted := h.started
  exact b.run_kept ⟨rfl, rfl, rfl, rfl, rfl, hstarted.reqValid, rfl, rfl⟩

/-- What a command shows: its transactions, from an empty list, and its phase. -/
theorem Runs.shows {i : Instr} {s u : State} {b : Body} (h : Runs i s b u) :
    b.Shows s.params.devAddr (b.run u).trace (b.run u).phase := by
  have hstarted := h.started
  obtain ⟨l, htrace, hshows⟩ := b.run_shows u
  rw [hstarted.trace, List.nil_append] at htrace
  rw [htrace, ← hstarted.params]
  exact hshows

theorem response_eq_some {t : State} {r : Result} : t.response = some r ↔ t.phase = .responding r := by
  rw [State.response]
  cases t.phase <;> simp

/-- The transactions a command may issue, on the channel it names. -/
def MayIssueOnChannel (i : Instr) (s : State) (op : BusOp) : Prop :=
  ∃ ch c, i.channel = some ch ∧ ch.toNat = c.index + 1 ∧ MayIssue i c s op

/-- The responses of a command, TransportError aside. -/
def MayRespond (i : Instr) (r : Result) : Prop := r = .error .invalidChannel ∨ MayAnswer i r

theorem Body.Within.mono {p p' : BusOp → Prop} {q q' : Result → Prop} (hp : ∀ op, p op → p' op) (hq : ∀ r, q r → q' r) {n : Nat} {b : Body}
    (hb : b.Within p q n) : b.Within p' q' n := by
  induction b generalizing n with
  | respond r => exact within_respond n (hq r (by cases n <;> exact hb))
  | issue op next ih =>
    cases n with
    | zero => cases hb
    | succ n =>
      obtain ⟨hop, hnext⟩ := hb
      exact ⟨hp op hop, fun w => ih w (hnext w)⟩

/-- Every command keeps to the table. -/
theorem Runs.within {i : Instr} {s u : State} {b : Body} (h : Runs i s b u) :
    b.Within (MayIssueOnChannel i s) (MayRespond i) 4 := by
  cases h with
  | kernel _ hr => exact .inr hr
  | badChannel _ _ => exact .inl rfl
  | onChannel hi hch =>
    exact (channelBody_within i _ s).mono (fun _ hop => ⟨_, _, hi, hch, hop⟩) fun _ hr => .inr hr

/-! Answered requests, and the block behind a pending transaction. -/

theorem Body.Shows.busy_iff {dev : Nat} {b : Body} {l : List Transaction} {ph : Phase} (h : b.Shows dev l ph) :
    ph = .busy ↔ ∃ pre x, l = pre ++ [x] ∧ x.outcome = .pending := by
  induction h with
  | respond r => simp
  | @done op next w l ph h ih =>
    rw [ih]
    constructor
    · rintro ⟨pre, x, rfl, hx⟩
      exact ⟨_ :: pre, x, rfl, hx⟩
    · rintro ⟨pre, x, hl, hx⟩
      cases pre with
      | nil =>
        cases hl
        cases hx
      | cons y pre =>
        cases hl
        exact ⟨pre, x, rfl, hx⟩
  | failed =>
    refine ⟨nofun, fun ⟨pre, x, hl, hx⟩ => ?_⟩
    obtain ⟨_, hlast⟩ := List.append_inj' (s₁ := []) hl rfl
    cases hlast
    cases hx
  | pending => exact ⟨fun _ => ⟨[], _, rfl, rfl⟩, fun _ => rfl⟩

/-- A command ends with a response, or waits for its last transaction. -/
theorem exec_answers (i : Instr) (s : State) : ∃ t, exec i s = .next t ∧ t.reqValid = false ∧
    ((∃ r, t.phase = .responding r) ∨ (t.phase = .busy ∧ ∃ x ∈ t.trace, x.outcome = .pending)) := by
  obtain ⟨b, u, hruns, hexec⟩ := exec_runs i s
  exact ⟨_, hexec, hruns.kept.reqValid, hruns.shows.phase⟩

theorem busyStep_of_no_reset {s : State} (h : s.host.program.head? ≠ some .reset) : busyStep s = .fault .busNeverAnswers := by
  unfold busyStep
  split
  next hprogram => exact absurd (by rw [hprogram]; rfl) h
  next => rfl

/-! The map. -/

/-- The table of the commands names only registers of the map, with the primitives the map allows (R59, R60). -/
theorem onMap_of_mayIssue {i : Instr} {c : Channel} {s : State} {op : BusOp} (h : MayIssue i c s op) : op.onMap := by
  have hreads : ∀ op ∈ srReads c, op.onMap := by
    simp only [srReads, List.forall_mem_cons, List.not_mem_nil, false_implies, implies_true, and_true]
    exact ⟨⟨c, .inr ⟨rfl, .inl rfl⟩⟩, ⟨c, .inr ⟨rfl, .inr (.inl rfl)⟩⟩, ⟨c, .inr ⟨rfl, .inr (.inr rfl)⟩⟩⟩
  cases i with
  | getPwm | getSpd =>
    cases h
    cases s.params.dutyRdBase with
    | readback => exact ⟨c, .inr (.inl rfl)⟩
    | dutySet => exact ⟨c, .inr (.inr (.inl rfl))⟩
  | getSr => exact hreads op h
  | getTac => cases h; exact ⟨c, .inl rfl⟩
  | getPps | getPpm | getPph | getRps | getRpm | getRph | getM3ps | getM3pm | getM3ph | getLps | getLpm | getLph | getGps | getGpm | getGph =>
    rcases List.mem_cons.mp h with rfl | h
    · exact ⟨c, .inl rfl⟩
    · exact hreads op h
  | getMode => cases h; exact ⟨c, .inl ⟨rfl, rfl⟩⟩
  | getTgt =>
    rcases h with rfl | h
    · exact ⟨c, .inr (.inr (.inr rfl))⟩
    · exact hreads op h
  | setPwm => obtain ⟨w, rfl⟩ := h; exact ⟨c, .inl rfl⟩
  | setSr => obtain ⟨j, b, rfl, hj⟩ := h; exact ⟨c, .inr ⟨rfl, hj⟩⟩
  | setMode => obtain ⟨b, rfl⟩ := h; exact ⟨c, .inl ⟨rfl, rfl⟩⟩
  | setTgt =>
    rcases h with h | ⟨w, rfl⟩
    · exact hreads op h
    · exact ⟨c, .inr rfl⟩
  | _ => cases h

/-- The two-byte registers start at an even offset and end at or below 0x5B. -/
theorem wordOffset_of_onMap {off : Byte} (h : (BusOp.memRead off).onMap) : off.toNat % 2 = 0 ∧ off.toNat + 1 ≤ 0x5B := by
  obtain ⟨c, rfl | rfl | rfl | rfl⟩ := h <;> have hindex := c.index_lt
  · rw [toNat_offTach]; omega
  · rw [toNat_offDutyRd_readback]; omega
  · rw [toNat_offDutySet]; omega
  · rw [toNat_offTgt]; omega

/-- What may be written may be read. -/
theorem onMap_memRead_of_memWrite {off : Byte} {w : Word16} (h : (BusOp.memWrite off w).onMap) : (BusOp.memRead off).onMap := by
  obtain ⟨c, rfl | rfl⟩ := h
  · exact ⟨c, .inr (.inr (.inl rfl))⟩
  · exact ⟨c, .inr (.inr (.inr rfl))⟩

/-- A bit of the map lies in a byte of Fan config or Fan dynamics. -/
theorem bitOffset_of_onMap {off : Byte} {j : Fin 8} {b : Bool} (h : (BusOp.bitWrite off j b).onMap) : off.toNat ≤ 0x5B := by
  obtain ⟨c, ⟨rfl, _⟩ | ⟨rfl, _⟩⟩ := h <;> have hindex := c.index_lt
  · rw [toNat_offCfg]; omega
  · rw [toNat_offDyn]; omega

theorem mayWrite_le_of_onMap {op : BusOp} (h : op.onMap) : ∀ a ∈ op.mayWrite, a ≤ 0x5B := by
  cases op with
  | bitRead | memRead => nofun
  | bitWrite off j b => exact List.forall_mem_singleton.mpr (bitOffset_of_onMap h)
  | memWrite off w =>
    obtain ⟨_, hle⟩ := wordOffset_of_onMap (onMap_memRead_of_memWrite h)
    have hsucc : (off + 1).toNat ≤ 0x5B := by rw [BitVec.toNat_add]; exact (Nat.mod_le _ _).trans hle
    exact List.forall_mem_cons.mpr ⟨by omega, List.forall_mem_singleton.mpr hsucc⟩

/-! The calibration state. -/

theorem startPpr_cases (i : Instr) (c : Channel) (s : State) :
    startPpr i c s = s.ppr ∨ ((∃ ch, i = .setPpr ch) ∧ 1 ≤ s.req.wdata.toInt ∧ startPpr i c s = s.ppr.set c s.req.wdata) := by
  cases i with
  | setPpr ch =>
    rw [startPpr]
    split
    next hcal => exact .inr ⟨⟨ch, rfl⟩, legalCal_eq_true.mp hcal, rfl⟩
    next => exact .inl rfl
  | _ => exact .inl rfl

theorem startPpm3_cases (i : Instr) (c : Channel) (s : State) :
    startPpm3 i c s = s.ppm3 ∨ ((∃ ch, i = .setPpm3 ch) ∧ 1 ≤ s.req.wdata.toInt ∧ startPpm3 i c s = s.ppm3.set c s.req.wdata) := by
  cases i with
  | setPpm3 ch =>
    rw [startPpm3]
    split
    next hcal => exact .inr ⟨⟨ch, rfl⟩, legalCal_eq_true.mp hcal, rfl⟩
    next => exact .inl rfl
  | _ => exact .inl rfl

theorem startAtEn_cases (i : Instr) (c : Channel) (s : State) :
    startAtEn i c s = s.atEn ∨ ((∃ ch, i = .setAt ch) ∧ startAtEn i c s = s.atEn.set c s.req.wbit) := by
  cases i with
  | setAt ch => exact .inr ⟨⟨ch, rfl⟩, rfl⟩
  | _ => exact .inl rfl

/-- A setter with a legal operand answers OK 0. -/
theorem run_setter_response {i : Instr} {c : Channel} {s : State} (u : State)
    (hi : (∃ ch, i = .setPpr ch) ∨ (∃ ch, i = .setPpm3 ch)) (hcal : 1 ≤ s.req.wdata.toInt) :
    ((channelBody i c s).run u).response = some (.ok 0) := by
  rcases hi with ⟨ch, rfl⟩ | ⟨ch, rfl⟩ <;>
  · rw [channelBody, if_pos (legalCal_eq_true.mpr hcal)]
    rfl

/-- PPR after a command: as it was, or written by SET.PPR (R203). -/
theorem Runs.ppr_cases {i : Instr} {s u : State} {b : Body} (h : Runs i s b u) :
    (b.run u).ppr = s.ppr ∨ ∃ ch c, i = .setPpr ch ∧ ch.toNat = c.index + 1 ∧ 1 ≤ s.req.wdata.toInt ∧
      (b.run u).ppr = s.ppr.set c s.req.wdata ∧ (b.run u).response = some (.ok 0) := by
  rw [h.kept.ppr]
  cases h with
  | kernel | badChannel => exact .inl rfl
  | @onChannel ch c hi hch =>
    refine (startPpr_cases i c s).imp id ?_
    rintro ⟨⟨_, rfl⟩, hcal, hset⟩
    cases hi
    exact ⟨ch, c, rfl, hch, hcal, hset, run_setter_response _ (.inl ⟨ch, rfl⟩) hcal⟩

/-- PPM3 after a command: as it was, or written by SET.PPM3 (R204). -/
theorem Runs.ppm3_cases {i : Instr} {s u : State} {b : Body} (h : Runs i s b u) :
    (b.run u).ppm3 = s.ppm3 ∨ ∃ ch c, i = .setPpm3 ch ∧ ch.toNat = c.index + 1 ∧ 1 ≤ s.req.wdata.toInt ∧
      (b.run u).ppm3 = s.ppm3.set c s.req.wdata ∧ (b.run u).response = some (.ok 0) := by
  rw [h.kept.ppm3]
  cases h with
  | kernel | badChannel => exact .inl rfl
  | @onChannel ch c hi hch =>
    refine (startPpm3_cases i c s).imp id ?_
    rintro ⟨⟨_, rfl⟩, hcal, hset⟩
    cases hi
    exact ⟨ch, c, rfl, hch, hcal, hset, run_setter_response _ (.inr ⟨ch, rfl⟩) hcal⟩

/-- AT_EN after a command: as it was, or written by SET.AT (R207). -/
theorem Runs.atEn_cases {i : Instr} {s u : State} {b : Body} (h : Runs i s b u) :
    (b.run u).atEn = s.atEn ∨ ∃ ch c, i = .setAt ch ∧ ch.toNat = c.index + 1 ∧
      (b.run u).atEn = s.atEn.set c (s.req.wdata.getLsbD 0) ∧ (b.run u).response = some (.ok 0) := by
  rw [h.kept.atEn]
  cases h with
  | kernel | badChannel => exact .inl rfl
  | @onChannel ch c hi hch =>
    refine (startAtEn_cases i c s).imp id ?_
    rintro ⟨⟨_, rfl⟩, hset⟩
    cases hi
    exact ⟨ch, c, rfl, hch, hset, rfl⟩

/-- An entry that a write changed is the one written. -/
theorem PerChannel.get_set_of_ne {α : Type} {p : PerChannel α} {c d : Channel} {v : α} (h : (p.set c v).get d ≠ p.get d) :
    d = c ∧ (p.set c v).get d = v := by
  by_cases hd : d = c
  · exact ⟨hd, by rw [hd, PerChannel.get_set_same]⟩
  · exact absurd (p.get_set_other v hd) h

/-- The operand check of the setters keeps the calibration legal. -/
theorem Runs.calLegal {i : Instr} {s u : State} {b : Body} (h : Runs i s b u) (hs : CalLegal s) : CalLegal (b.run u) := by
  intro d
  obtain ⟨hppr, hppm3⟩ := hs d
  constructor
  · rcases h.ppr_cases with hsame | ⟨_, c, _, _, hcal, hset, _⟩
    · rwa [hsame]
    · rw [hset, PerChannel.get_set]
      split
      · exact hcal
      · exact hppr
  · rcases h.ppm3_cases with hsame | ⟨_, c, _, _, hcal, hset, _⟩
    · rwa [hsame]
    · rw [hset, PerChannel.get_set]
      split
      · exact hcal
      · exact hppm3

/-! The invariant. -/

/-- Every response of a command is one the block may give. -/
theorem legalResult_of_mayRespond {i : Instr} {r : Result} (h : MayRespond i r) : legalResult r = true := by
  have hraisable : ∀ st ∈ raisable i, st.isError = true := by
    cases i <;> simp [raisable, Status.isError]
  cases r with
  | ok v => rfl
  | error st =>
    rcases h with hbad | hr
    · cases hbad
      rfl
    · exact hraisable st (hr st rfl)

theorem Runs.legalPhase {i : Instr} {s u : State} {b : Body} (h : Runs i s b u) : legalPhase (b.run u).phase = true := by
  have hshows := h.shows
  cases hph : (b.run u).phase with
  | idle => rfl
  | busy => rfl
  | responding r =>
    by_cases hr : r = .error .transportError
    · rw [hr]; rfl
    · rw [hph] at hshows
      exact legalResult_of_mayRespond (h.within.answer (hshows.answers_of_ne hr))

theorem inv_of_exec {i : Instr} {s t : State} (hs : Inv s) (h : exec i s = .next t) : Inv t := by
  obtain ⟨b, u, hruns, rfl⟩ := runs_of_exec h
  have himage : Memory.wf (b.run u).chip = true :=
    hruns.within.run_keeps (Q := fun v => Memory.wf v.chip = true) (fun _ op _ hv => chipAfter_wf op _ hv) (fun _ _ hv => hv)
      (hruns.started.chip ▸ hs.image)
  exact ⟨hruns.calLegal hs.calibration, himage, hruns.within.length_le hruns.shows, hruns.legalPhase⟩

theorem inv_resetEdge {s : State} (hs : Inv s) : Inv s.resetEdge where
  calibration c := by
    rw [State.resetEdge_ppr, State.resetEdge_ppm3, PerChannel.get_all, PerChannel.get_all]
    decide
  image := hs.image
  history := Nat.zero_le 4
  response := rfl

theorem SameBlock.inv {s t : State} (h : SameBlock s t) (hs : Inv s) (hphase : legalPhase t.phase = true) : Inv t where
  calibration c := by rw [h.ppr, h.ppm3]; exact hs.calibration c
  image := by rw [h.chip]; exact hs.image
  history := by rw [h.trace]; exact hs.history
  response := hphase

theorem inv_of_busyStep {s t : State} (hs : Inv s) (h : busyStep s = .next t) : Inv t := by
  unfold busyStep at h
  split at h
  · cases h
    exact ⟨hs.calibration, hs.image, hs.history, hs.response⟩
  · cases h

theorem inv_reject {s : State} (r : Reject) (hs : Inv s) : Inv (s.reject r) where
  calibration := hs.calibration
  image := hs.image
  history := Nat.zero_le 4
  response := by cases r <;> rfl

/-- What an idle block does with a request: run its command, or reject its word. -/
theorem step_of_request {s : State} (h : Accepts s) :
    (∃ i, decode s.req.cw = .ok i ∧ step s = exec i s) ∨ (∃ r, decode s.req.cw = .error r ∧ step s = .next (s.reject r)) := by
  cases hdec : decode s.req.cw with
  | ok i => exact .inl ⟨i, rfl, step_of_decode_ok h hdec⟩
  | error r => exact .inr ⟨r, rfl, step_of_decode_error h hdec⟩

end Sys2Proof.Machine

namespace Sys2Proof
open Sys2Proof.Machine

/-- Settles O50: the reset edge, the wait, the end of the response cycle, the host's turn, a rejected word, and a command by its body. -/
theorem stepKeepsTheInvariant : Obligations.StepKeepsTheInvariant := by
  intro s t hs h
  cases hrst : s.rst with
  | true =>
    cases (step_of_rst hrst).symm.trans h
    exact inv_resetEdge hs
  | false =>
  cases hphase : s.phase with
  | busy => exact inv_of_busyStep hs ((step_of_busy hrst hphase).symm.trans h)
  | responding r =>
    cases (step_of_responding hrst hphase).symm.trans h
    obtain ⟨hsame, hidle⟩ := s.afterResponse_frame r
    exact hsame.inv hs (by rw [hidle]; rfl)
  | idle =>
  cases hreq : s.reqValid with
  | false =>
    cases (step_of_no_request hrst hphase hreq).symm.trans h
    obtain ⟨hsame, hkeep⟩ := s.present_frame
    exact hsame.inv hs (by rw [hkeep]; exact hs.response)
  | true =>
    rcases step_of_request ⟨hrst, hphase, hreq⟩ with ⟨i, _, hstep⟩ | ⟨r, _, hstep⟩
    · exact inv_of_exec hs (hstep.symm.trans h)
    · cases hstep.symm.trans h
      exact inv_reject r hs

/-- Settles O5: a rejected word is answered at once, a command by the ends of its body. -/
theorem everyWordIsAnswered : Obligations.EveryWordIsAnswered := by
  intro s hs
  rcases step_of_request hs with ⟨i, _, hstep⟩ | ⟨r, _, hstep⟩
  · rw [hstep]
    exact exec_answers i s
  · exact ⟨_, hstep, rfl, .inl ⟨_, rfl⟩⟩

/-- Settles O35: what a body shows for the first clause, the two steps of a busy block for the others. -/
theorem pendingTransactionLeavesTheBlockBusy : Obligations.PendingTransactionLeavesTheBlockBusy := by
  refine ⟨fun i s t h => ?_, fun s hbusy hrst hhost => ?_, fun s hbusy hrst => ⟨_, step_of_rst hrst, rfl, rfl, rfl, ?_⟩⟩
  · obtain ⟨b, u, hruns, rfl⟩ := runs_of_exec h
    exact hruns.shows.busy_iff
  · rw [step_of_busy hrst hbusy, busyStep_of_no_reset hhost]
  · rw [State.resetEdge_host, hostAtReset, hbusy]

/-- Settles O38: the transactions of the table, all of them on the map. -/
theorem transactionsStayOnTheMap : Obligations.TransactionsStayOnTheMap := by
  intro i s t h x hx
  obtain ⟨b, u, hruns, rfl⟩ := runs_of_exec h
  obtain ⟨hdev, ch, c, _, _, hissue⟩ := hruns.within.transaction hruns.shows x hx
  have hmap := onMap_of_mayIssue hissue
  refine ⟨hdev, hmap, mayWrite_le_of_onMap hmap, fun off hop => ?_, fun off w hop => ?_⟩ <;> rw [hop] at hmap
  · exact wordOffset_of_onMap hmap
  · exact wordOffset_of_onMap (onMap_memRead_of_memWrite hmap)

/-- Settles O32: an array that a command changed was written by its setter, and an entry that the write changed is the one written. -/
theorem calibrationHasOneWriter : Obligations.CalibrationHasOneWriter := by
  intro i s t d h
  obtain ⟨b, u, hruns, rfl⟩ := runs_of_exec h
  refine ⟨fun hne => ?ppr, fun hne => ?ppm3, fun hne => ?atEn⟩
  case ppr =>
    rcases hruns.ppr_cases with hsame | ⟨ch, c, hi, hch, hcal, hset, hok⟩
    · exact absurd (by rw [hsame]) hne
    · rw [hset] at hne ⊢
      obtain ⟨rfl, hvalue⟩ := PerChannel.get_set_of_ne hne
      exact ⟨⟨ch, hi, hch⟩, hvalue, hcal, hok⟩
  case ppm3 =>
    rcases hruns.ppm3_cases with hsame | ⟨ch, c, hi, hch, hcal, hset, hok⟩
    · exact absurd (by rw [hsame]) hne
    · rw [hset] at hne ⊢
      obtain ⟨rfl, hvalue⟩ := PerChannel.get_set_of_ne hne
      exact ⟨⟨ch, hi, hch⟩, hvalue, hcal, hok⟩
  case atEn =>
    rcases hruns.atEn_cases with hsame | ⟨ch, c, hi, hch, hset, hok⟩
    · exact absurd (by rw [hsame]) hne
    · rw [hset] at hne ⊢
      obtain ⟨rfl, hvalue⟩ := PerChannel.get_set_of_ne hne
      exact ⟨⟨ch, hi, hch⟩, hvalue, hok⟩

end Sys2Proof

/-! PROOFS. What the commands leave unchanged, and what they do not read (42_get_commands.md R160, 43_set_commands.md, 40_field_codec.md R110,
30_encoding.md R87). A byte outside those that the transactions of a command may write reads as before; a bit write leaves the other seven bits;
and a body is a function of the parameters, the calibration state and WDATA, so the rest of the request record passes through it. -/

namespace Sys2Proof.Machine

/-! The register space under a command. -/

theorem Runs.frame {i : Instr} {s u : State} {b : Body} (h : Runs i s b u) :
    (b.run u).params = s.params ∧ (b.run u).rst = s.rst ∧ (b.run u).req = s.req ∧ (b.run u).host = s.host ∧
      (b.run u).reqValid = false := by
  have hkept := h.kept
  have hstarted := h.started
  exact ⟨hkept.params.trans hstarted.params, hkept.rst.trans hstarted.rst, hkept.req.trans hstarted.req,
    hkept.host.trans hstarted.host, hkept.reqValid⟩

/-- A command that issues only reads leaves the register image as it was. -/
theorem Runs.chip_of_reads {i : Instr} {s u : State} {b : Body} (h : Runs i s b u)
    (hreads : ∀ op, MayIssueOnChannel i s op → op.writes = []) : (b.run u).chip = s.chip :=
  h.within.run_keeps (Q := fun v => v.chip = s.chip) (fun _ op hop hv => (chipAfter_of_read (hreads op hop) _ _).trans hv)
    (fun _ _ hv => hv) h.started.chip

/-- A command that issues no transaction leaves the register image and the environment, and records nothing. -/
theorem Runs.no_bus {i : Instr} {s u : State} {b : Body} (h : Runs i s b u) (hnone : ∀ op, ¬ MayIssueOnChannel i s op) :
    (b.run u).chip = s.chip ∧ (b.run u).env = s.env ∧ (b.run u).trace = [] := by
  have hstarted := h.started
  exact h.within.run_keeps (Q := fun v => v.chip = s.chip ∧ v.env = s.env ∧ v.trace = []) (fun _ op hop _ => absurd hop (hnone op))
    (fun _ _ hv => hv) ⟨hstarted.chip, hstarted.env, hstarted.trace⟩

/-- A byte that no transaction of the command writes reads as before. -/
theorem Runs.readByte_eq {i : Instr} {s u : State} {b : Body} {a : Nat} (h : Runs i s b u)
    (hspared : ∀ op, MayIssueOnChannel i s op → a ∉ op.mayWrite) : readByte (b.run u).chip a = readByte s.chip a :=
  h.within.run_keeps (Q := fun v => readByte v.chip a = readByte s.chip a)
    (fun _ op hop hv => (readByte_chipAfter _ op _ (hspared op hop)).trans hv) (fun _ _ hv => hv) (by rw [h.started.chip])

/-- A bit write, however it ends, leaves the image or replaces its one bit (20_memory.md R55, U9). -/
theorem chipAfter_bitWrite (m : Memory) (off : Byte) (i : Fin 8) (b : Bool) (ans : BusAnswer) :
    chipAfter m (.bitWrite off i b) ans = m ∨
      ∃ b', chipAfter m (.bitWrite off i b) ans = writeByte m off.toNat (setBit (readByte m off.toNat) i b') := by
  have hleft (left : Option Word16) : imageLeft m (.bitWrite off i b) left = m ∨
      ∃ b', imageLeft m (.bitWrite off i b) left = writeByte m off.toNat (setBit (readByte m off.toNat) i b') := by
    cases left with
    | none => exact .inl rfl
    | some w => exact .inr ⟨_, rfl⟩
  cases ans with
  | memory | value => exact .inr ⟨b, rfl⟩
  | fail left | pending left => exact hleft left

theorem getLsbD_chipAfter_bitWrite {m : Memory} {off : Byte} {i j : Fin 8} (b : Bool) (ans : BusAnswer) (hj : j ≠ i) :
    (readByte (chipAfter m (.bitWrite off i b) ans) off.toNat).getLsbD j = (readByte m off.toNat).getLsbD j := by
  rcases chipAfter_bitWrite m off i b ans with hsame | ⟨b', hset⟩
  · rw [hsame]
  · rw [hset, readByte_writeByte_same, getLsbD_setBit, if_neg hj]

/-- A bit of a byte that the command writes only bit by bit, and never at that bit. -/
theorem Runs.getLsbD_eq {i : Instr} {s u : State} {b : Body} {off : Byte} {j : Fin 8} (h : Runs i s b u)
    (hspared : ∀ op, MayIssueOnChannel i s op → ∃ k v, op = .bitWrite off k v ∧ j ≠ k) :
    (readByte (b.run u).chip off.toNat).getLsbD j = (readByte s.chip off.toNat).getLsbD j := by
  refine h.within.run_keeps (Q := fun v => (readByte v.chip off.toNat).getLsbD j = (readByte s.chip off.toNat).getLsbD j)
    (fun v op hop hv => ?_) (fun _ _ hv => hv) (by rw [h.started.chip])
  obtain ⟨k, x, rfl, hj⟩ := hspared op hop
  exact (getLsbD_chipAfter_bitWrite x _ hj).trans hv

/-! The rows of the table. -/

theorem channel_unique {ch : BitVec 3} {c d : Channel} (hc : ch.toNat = c.index + 1) (hd : ch.toNat = d.index + 1) : c = d :=
  Option.some.inj ((channelOf_of_index hc).symm.trans (channelOf_of_index hd))

/-- On channel 0 or 7 no transaction is issued. -/
theorem not_mayIssue_of_illegal {i : Instr} {s : State} {ch : BitVec 3} (hi : i.channel = some ch) (hch : ch = 0 ∨ ch = 7)
    (op : BusOp) : ¬ MayIssueOnChannel i s op := by
  rintro ⟨ch', c, hi', hc, _⟩
  cases hi.symm.trans hi'
  have hlt := c.index_lt
  rcases hch with rfl | rfl
  · have hzero : (0 : BitVec 3).toNat = 0 := rfl
    omega
  · have hseven : (7 : BitVec 3).toNat = 7 := rfl
    omega

/-- The row of a command on the channel it names. -/
theorem mayIssue_of_onChannel {i : Instr} {s : State} {ch : BitVec 3} {c : Channel} {op : BusOp} (h : MayIssueOnChannel i s op)
    (hi : i.channel = some ch) (hch : ch.toNat = c.index + 1) : MayIssue i c s op := by
  obtain ⟨ch', c', hi', hch', hop⟩ := h
  cases hi.symm.trans hi'
  cases channel_unique hch hch'
  exact hop

theorem writes_of_srReads {c : Channel} {op : BusOp} (h : op ∈ srReads c) : op.writes = [] ∧ op.mayWrite = [] := by
  have hall : ∀ op ∈ srReads c, op.writes = [] ∧ op.mayWrite = [] := by simp [srReads, BusOp.writes, BusOp.mayWrite]
  exact hall op h

/-- A two-byte write changes the byte at its offset and the next one. -/
theorem not_mem_mayWrite_of_onMap {off : Byte} {w : Word16} {a : Nat} (h : (BusOp.memWrite off w).onMap) (h0 : a ≠ off.toNat)
    (h1 : a ≠ off.toNat + 1) : a ∉ (BusOp.memWrite off w).mayWrite := by
  obtain ⟨_, hle⟩ := wordOffset_of_onMap (onMap_memRead_of_memWrite h)
  have hsucc : (off + 1).toNat = off.toNat + 1 := by
    rw [BitVec.toNat_add]
    exact Nat.mod_eq_of_lt (hle.trans_lt (by decide))
  simp only [BusOp.mayWrite, hsucc, List.mem_cons, h0, h1, List.not_mem_nil, or_self, not_false_eq_true]

/-- GET commands and kernels issue reads only. -/
theorem reads_of_mayIssue {i : Instr} {s : State} {op : BusOp} (hi : i.isGet = true ∨ i.isKernel = true)
    (h : MayIssueOnChannel i s op) : op.writes = [] := by
  obtain ⟨ch, c, hchannel, _, hop⟩ := h
  have hget : i.isGet = true := hi.resolve_right fun hkernel => by simp [isKernel_of_channel_eq_some hchannel] at hkernel
  cases i with
  | getPwm | getSpd | getTac | getMode => cases hop; rfl
  | getSr => exact (writes_of_srReads hop).1
  | getPps | getPpm | getPph | getRps | getRpm | getRph | getM3ps | getM3pm | getM3ph | getLps | getLpm | getLph | getGps | getGpm | getGph =>
    rcases List.mem_cons.mp hop with rfl | hbits
    · rfl
    · exact (writes_of_srReads hbits).1
  | getTgt =>
    rcases hop with rfl | hbits
    · rfl
    · exact (writes_of_srReads hbits).1
  | getPpr | getPpm3 | getPpl | getPpg | getAt => cases hop
  | _ => cases hget

/-- Outside the three setters the calibration state stays. -/
theorem Runs.calibration_eq {i : Instr} {s u : State} {b : Body} (h : Runs i s b u)
    (hi : ∀ ch, i ≠ .setPpr ch ∧ i ≠ .setPpm3 ch ∧ i ≠ .setAt ch) :
    (b.run u).ppr = s.ppr ∧ (b.run u).ppm3 = s.ppm3 ∧ (b.run u).atEn = s.atEn := by
  refine ⟨h.ppr_cases.resolve_right ?_, h.ppm3_cases.resolve_right ?_, h.atEn_cases.resolve_right ?_⟩
  · rintro ⟨ch, _, rfl, _⟩
    exact (hi ch).1 rfl
  · rintro ⟨ch, _, rfl, _⟩
    exact (hi ch).2.1 rfl
  · rintro ⟨ch, _, rfl, _⟩
    exact (hi ch).2.2 rfl

/-- The entry of a channel that the command does not name stays. -/
theorem Runs.calibration_get_eq {i : Instr} {s u : State} {b : Body} {ch : BitVec 3} {d : Channel} (h : Runs i s b u)
    (hi : i.channel = some ch) (hd : ch.toNat ≠ d.index + 1) :
    (b.run u).ppr.get d = s.ppr.get d ∧ (b.run u).ppm3.get d = s.ppm3.get d ∧ (b.run u).atEn.get d = s.atEn.get d := by
  have hother {c : Channel} (hc : ch.toNat = c.index + 1) : d ≠ c := fun hdc => hd (hdc ▸ hc)
  refine ⟨?_, ?_, ?_⟩
  · rcases h.ppr_cases with hsame | ⟨_, c, rfl, hc, _, hset, _⟩
    · rw [hsame]
    · cases hi
      rw [hset, PerChannel.get_set_other _ _ (hother hc)]
  · rcases h.ppm3_cases with hsame | ⟨_, c, rfl, hc, _, hset, _⟩
    · rw [hsame]
    · cases hi
      rw [hset, PerChannel.get_set_other _ _ (hother hc)]
  · rcases h.atEn_cases with hsame | ⟨_, c, rfl, hc, hset, _⟩
    · rw [hsame]
    · cases hi
      rw [hset, PerChannel.get_set_other _ _ (hother hc)]

/-! The request record under a body. -/

/-- The request record passes through a body. -/
theorem Body.run_withRequest (b : Body) (u : State) (r : Request) : b.run { u with req := r } = { b.run u with req := r } := by
  induction b generalizing u with
  | respond _ => rfl
  | issue op next ih =>
    have hissue : Machine.issue { u with req := r } op = ((Machine.issue u op).1, { (Machine.issue u op).2 with req := r }) := rfl
    rw [Body.run, Body.run, bus, bus, hissue]
    rcases Machine.issue u op with ⟨o, v⟩
    cases o with
    | done w => exact ih w v
    | failed | pending => rfl

/-- A GET body reads no operand, a SET body only WDATA (R87, R160). -/
theorem channelBody_withRequest {i : Instr} (c : Channel) (s : State) (r : Request)
    (h : i.isGet = true ∨ r.wdata = s.req.wdata) : channelBody i c { s with req := r } = channelBody i c s := by
  have hset (hw : r.wdata = s.req.wdata) : r.wnum = s.req.wnum ∧ r.wbit = s.req.wbit :=
    ⟨congrArg BitVec.toNat hw, congrArg (BitVec.getLsbD · 0) hw⟩
  cases i with
  | setPwm | setSr | setPpr | setPpm3 | setMode =>
    have hw := h.resolve_left nofun
    obtain ⟨hnum, hbit⟩ := hset hw
    simp only [channelBody, hw, hnum, hbit]
  | setTgt =>
    obtain ⟨hnum, _⟩ := hset (h.resolve_left nofun)
    simp only [channelBody, Body.setTgt, hnum]
    rfl
  | _ => rfl

theorem start_withRequest {i : Instr} (c : Channel) (s : State) (r : Request) (h : i.isGet = true ∨ r.wdata = s.req.wdata) :
    start i c { s with req := r } = { start i c s with req := r } := by
  cases i with
  | setPpr | setPpm3 | setAt =>
    have hw := h.resolve_left nofun
    simp only [start, startPpr, startPpm3, startAtEn, Request.wbit, hw]
    rfl
  | _ => rfl

/-! The operands of the kernels. -/

/-- A rate kernel reads the calibration operand of its group only (41_unit_conversion.md R133). -/
theorem rateKernel_congr {tag : RateTag} {r r' : Request} (hcount : r.kcount = r'.kcount) (hsr : r.ksr = r'.ksr)
    (hppr : readsPpr tag = true → r.kppr = r'.kppr) (hppm3 : readsPpm3 tag = true → r.kppm3 = r'.kppm3) :
    rateKernel tag r = rateKernel tag r' := by
  have hlegal : legalRateOperands tag r = legalRateOperands tag r' := by
    rw [Bool.eq_iff_iff, legalRateOperands_eq_true, legalRateOperands_eq_true, hsr]
    exact and_congr_right fun _ => and_congr (imp_congr_right fun h => by rw [hppr h]) (imp_congr_right fun h => by rw [hppm3 h])
  have hcal : rateCalibration tag r.kppr.toNat r.kppm3.toNat = rateCalibration tag r'.kppr.toNat r'.kppm3.toNat := by
    unfold rateCalibration
    split_ifs with h h'
    · rw [hppr h]
    · rw [hppm3 h']
    · rfl
  rw [rateKernel, rateKernel, hlegal, conv, conv, hcount, hsr]
  simp only [rateValue_eq, hcal]

end Sys2Proof.Machine

namespace Sys2Proof
open Sys2Proof.Machine

/-- Settles O26: each kernel's equation, in which only the operands of its rule occur. -/
theorem kernelResponseDependsOnRequestOnly : Obligations.KernelResponseDependsOnRequestOnly := by
  intro i s1 s2 hi hparams hw hcount hsr hppr hppm3
  cases i with
  | kconvPps | kconvPpm | kconvPph =>
    refine ⟨_, rfl, congrArg (fun r => Host.Outcome.next (s2.accept.respond r)) ?_⟩
    exact Eq.symm (rateKernel_congr (hcount (by simp)) (hsr (by simp)) nofun nofun)
  | kconvRps | kconvRpm | kconvRph =>
    refine ⟨_, rfl, congrArg (fun r => Host.Outcome.next (s2.accept.respond r)) ?_⟩
    exact Eq.symm (rateKernel_congr (hcount (by simp)) (hsr (by simp)) (fun _ => hppr (by simp)) nofun)
  | kconvM3ps | kconvM3pm | kconvM3ph | kconvLps | kconvLpm | kconvLph | kconvGps | kconvGpm | kconvGph =>
    refine ⟨_, rfl, congrArg (fun r => Host.Outcome.next (s2.accept.respond r)) ?_⟩
    exact Eq.symm (rateKernel_congr (hcount (by simp)) (hsr (by simp)) nofun fun _ => hppm3 (by simp))
  | kconvSpd => exact ⟨_, exec_kconvSpd s1, by rw [exec_kconvSpd s2, hw (by simp)]⟩
  | kconvPpl => exact ⟨_, exec_kconvPpl s1, by rw [exec_kconvPpl s2, hppm3 (by simp)]⟩
  | kconvPpg => exact ⟨_, exec_kconvPpg s1, by rw [exec_kconvPpg s2, hppm3 (by simp)]⟩
  | kdecMode => exact ⟨_, exec_kdecMode s1, by rw [exec_kdecMode s2, hw (by simp)]⟩
  | kdecSr => exact ⟨_, exec_kdecSr s1, by rw [exec_kdecSr s2, hw (by simp), hparams]⟩
  | kdecDuty => exact ⟨_, exec_kdecDuty s1, by rw [exec_kdecDuty s2, hw (by simp)]⟩
  | kdecTach => exact ⟨_, exec_kdecTach s1, by rw [exec_kdecTach s2, hw (by simp)]⟩
  | kencSr => exact ⟨_, exec_kencSr s1, by rw [exec_kencSr s2, hw (by simp)]⟩
  | kencDuty => exact ⟨_, exec_kencDuty s1, by rw [exec_kencDuty s2, hw (by simp)]⟩
  | kencTach => exact ⟨_, exec_kencTach s1, by rw [exec_kencTach s2, hw (by simp)]⟩
  | ktgtEnc => exact ⟨_, exec_ktgtEnc s1, by rw [exec_ktgtEnc s2, hw (by simp), hsr (by simp), hppr (by simp)]⟩
  | ktgtDec => exact ⟨_, exec_ktgtDec s1, by rw [exec_ktgtDec s2, hcount (by simp), hsr (by simp), hppr (by simp), hparams]⟩
  | _ => cases hi

/-- Settles O27: the body and its start are the same, and the record passes through. -/
theorem commandsIgnoreUnreadFields : Obligations.CommandsIgnoreUnreadFields := by
  intro i s t r hi h
  have hread : i.isGet = true ∨ r.wdata = s.req.wdata := hi.imp id And.right
  have hchannel : i.channel ≠ none := by
    intro hnone
    have hcls : i.cls = 2 := eq_of_beq (isKernel_of_channel_eq_none hnone)
    simp [Instr.isGet, Instr.isSet, hcls] at hi
  obtain ⟨ch, hch⟩ := Option.ne_none_iff_exists'.mp hchannel
  cases hc : channelOf ch with
  | none =>
    have hillegal := channelOf_eq_none.mp hc
    cases (exec_of_illegal_channel s hch hillegal).symm.trans h
    exact exec_of_illegal_channel _ hch hillegal
  | some c =>
    cases (exec_channel hch hc s).symm.trans h
    rw [exec_channel hch hc, channelBody_withRequest c s r hread, start_withRequest c s r hread, Body.run_withRequest]

/-- Settles O28: reads only, and for a kernel no transaction at all. -/
theorem getAndKernelFrame : Obligations.GetAndKernelFrame := by
  intro i s t hi h
  obtain ⟨b, u, hruns, rfl⟩ := runs_of_exec h
  obtain ⟨hparams, hrst, hreq, hhost, hvalid⟩ := hruns.frame
  have hsetter (ch : BitVec 3) : i ≠ .setPpr ch ∧ i ≠ .setPpm3 ch ∧ i ≠ .setAt ch := by
    refine ⟨?_, ?_, ?_⟩ <;> rintro rfl <;> rcases hi with hi | hi <;> cases hi
  obtain ⟨hppr, hppm3, hatEn⟩ := hruns.calibration_eq hsetter
  have hchip := hruns.chip_of_reads fun op => reads_of_mayIssue hi
  refine ⟨hparams, hrst, hreq, hhost, hvalid, hppr, hppm3, hatEn, hchip, fun a => by rw [hchip], fun hkernel => ?_⟩
  have hnone (op : BusOp) : ¬ MayIssueOnChannel i s op := by
    rintro ⟨ch, _, hchannel, _⟩
    simp [isKernel_of_channel_eq_some hchannel] at hkernel
  obtain ⟨_, henv, htrace⟩ := hruns.no_bus hnone
  exact ⟨henv, htrace⟩

/-- Settles O29: no transaction, the array of each setter by its cases, and the entries of the other channels. -/
theorem calibrationSetFrame : Obligations.CalibrationSetFrame := by
  intro i s t ch hi h
  obtain ⟨b, u, hruns, rfl⟩ := runs_of_exec h
  obtain ⟨hparams, hrst, hreq, hhost, hvalid⟩ := hruns.frame
  have hchannel : i.channel = some ch := by rcases hi with rfl | rfl | rfl <;> rfl
  have hnone (op : BusOp) : ¬ MayIssueOnChannel i s op := by
    rintro ⟨_, _, _, _, hop⟩
    rcases hi with rfl | rfl | rfl <;> cases hop
  obtain ⟨hchip, henv, htrace⟩ := hruns.no_bus hnone
  refine ⟨hparams, hrst, hreq, hhost, hvalid, hchip, fun a => by rw [hchip], henv, htrace, fun hne => ?_, fun hne => ?_, fun hne => ?_,
    fun d hd => hruns.calibration_get_eq hchannel hd⟩
  · refine hruns.ppr_cases.resolve_right ?_
    rintro ⟨_, _, rfl, _⟩
    cases hchannel
    exact hne rfl
  · refine hruns.ppm3_cases.resolve_right ?_
    rintro ⟨_, _, rfl, _⟩
    cases hchannel
    exact hne rfl
  · refine hruns.atEn_cases.resolve_right ?_
    rintro ⟨_, _, rfl, _⟩
    cases hchannel
    exact hne rfl

/-- Settles O30: the one write in the row of each command. -/
theorem wordSetFrame : Obligations.WordSetFrame := by
  intro i s t ch hi h
  obtain ⟨b, u, hruns, rfl⟩ := runs_of_exec h
  obtain ⟨hparams, hrst, hreq, hhost, hvalid⟩ := hruns.frame
  have hchannel : i.channel = some ch := by rcases hi with rfl | rfl <;> rfl
  obtain ⟨hppr, hppm3, hatEn⟩ := hruns.calibration_eq fun ch' => by rcases hi with rfl | rfl <;> exact ⟨nofun, nofun, nofun⟩
  refine ⟨hparams, hrst, hreq, hhost, hvalid, hppr, hppm3, hatEn, fun c off hch hoff a h0 h1 => ?legal, fun hbad a => ?illegal⟩
  case legal =>
    have hrow : ∀ op, MayIssueOnChannel i s op → op.mayWrite = [] ∨ ∃ w, op = .memWrite off w := by
      intro op hop
      have hrow := mayIssue_of_onChannel hop hchannel hch
      rcases hi with rfl | rfl
      · rw [hoff, if_pos rfl]
        exact .inr hrow
      · rw [hoff, if_neg nofun]
        exact hrow.imp (fun hbits => (writes_of_srReads hbits).2) id
    refine hruns.readByte_eq fun op hop => ?_
    rcases hrow op hop with hnone | ⟨w, rfl⟩
    · rw [hnone]
      nofun
    · exact not_mem_mayWrite_of_onMap (onMap_of_mayIssue (mayIssue_of_onChannel hop hchannel hch)) h0 h1
  case illegal => exact hruns.readByte_eq fun op hop => absurd hop (not_mayIssue_of_illegal hchannel hbad op)

/-- Settles O31: the bit writes in the row of each command. -/
theorem bitSetFrame : Obligations.BitSetFrame := by
  intro i s t ch hi h
  obtain ⟨b, u, hruns, rfl⟩ := runs_of_exec h
  obtain ⟨hparams, hrst, hreq, hhost, hvalid⟩ := hruns.frame
  have hchannel : i.channel = some ch := by rcases hi with rfl | rfl <;> rfl
  obtain ⟨hppr, hppm3, hatEn⟩ := hruns.calibration_eq fun ch' => by rcases hi with rfl | rfl <;> exact ⟨nofun, nofun, nofun⟩
  refine ⟨hparams, hrst, hreq, hhost, hvalid, hppr, hppm3, hatEn, fun c off low hch hoff hlow => ?legal, fun hbad a => ?illegal⟩
  case legal =>
    have hrow : low ≤ 8 ∧ ∀ op, MayIssueOnChannel i s op → ∃ j v, op = .bitWrite off j v ∧ low ≤ j.val := by
      rcases hi with rfl | rfl
      · rw [hoff, hlow, if_pos rfl, if_pos rfl]
        refine ⟨by decide, fun op hop => ?_⟩
        obtain ⟨j, v, rfl, hj⟩ := mayIssue_of_onChannel hop hchannel hch
        exact ⟨j, v, rfl, by rcases hj with rfl | rfl | rfl <;> decide⟩
      · rw [hoff, hlow, if_neg nofun, if_neg nofun]
        refine ⟨by decide, fun op hop => ?_⟩
        obtain ⟨v, rfl⟩ := mayIssue_of_onChannel hop hchannel hch
        exact ⟨7, v, rfl, by decide⟩
    obtain ⟨hlow8, hrow⟩ := hrow
    refine ⟨fun a ha => hruns.readByte_eq fun op hop => ?_, fun j hj => ?_⟩
    · obtain ⟨_, _, rfl, _⟩ := hrow op hop
      simpa [BusOp.mayWrite] using ha
    · refine hruns.getLsbD_eq (j := ⟨j, by omega⟩) fun op hop => ?_
      obtain ⟨k, v, hop', hk⟩ := hrow op hop
      exact ⟨k, v, hop', by rintro rfl; exact absurd hk (not_le.mpr hj)⟩
  case illegal => exact hruns.readByte_eq fun op hop => absurd hop (not_mayIssue_of_illegal hchannel hbad op)

end Sys2Proof

/-! PROOFS. What the commands answer when their transactions succeed (42_get_commands.md R165 to R189, 43_set_commands.md R201 to R206). A run of
transactions that all succeed drives the body of the command down one path of its tree, and the leaf at its end is the answer. -/

namespace Sys2Proof.Machine

/-! A body along a run of transactions that succeed. -/

theorem Body.run_of_issueAll_cons {op : BusOp} {ops : List BusOp} {next : Word16 → Body} {s t : State} {w : Word16} {ws : List Word16}
    (h : issueAll s (op :: ops) = some (w :: ws, t)) :
    (Body.issue op next).run s = (next w).run (Machine.issue s op).2 ∧ issueAll (Machine.issue s op).2 ops = some (ws, t) := by
  obtain ⟨hdone, hrest⟩ := issue_of_issueAll_cons h
  exact ⟨bus_done _ hdone, hrest⟩

theorem eq_of_issueAll_nil {s t : State} (h : issueAll s [] = some ([], t)) : s = t := by
  cases h
  rfl

/-- The last transaction of a run. -/
theorem Body.run_of_issueAll_one {op : BusOp} {next : Word16 → Body} {s t : State} {w : Word16}
    (h : issueAll s [op] = some ([w], t)) : (Body.issue op next).run s = (next w).run t := by
  obtain ⟨hrun, hrest⟩ := run_of_issueAll_cons (next := next) h
  rw [hrun, eq_of_issueAll_nil hrest]

theorem Body.run_lastWrite_of_issueAll {op : BusOp} {s t : State} {w : Word16} (h : issueAll s [op] = some ([w], t)) :
    (Body.lastWrite op).run s = t.respond (.ok 0) :=
  run_of_issueAll_one h

/-- ReadSR goes on with the transactions after its three reads, from the code they spell. -/
theorem Body.run_readSR_of_issueAll {c : Channel} {u : SrUnmatched} {next : Nat → Body} {ops : List BusOp} {s t : State}
    {b7 b6 b5 : Word16} {ws : List Word16} (h : issueAll s (srReads c ++ ops) = some (b7 :: b6 :: b5 :: ws, t)) :
    ∃ v, issueAll v ops = some (ws, t) ∧ (Body.readSR c u next).run s =
      (Body.withEncoded (decSR u (srByte (b7.getLsbD 0) (b6.getLsbD 0) (b5.getLsbD 0))) next).run v := by
  obtain ⟨hrun7, h⟩ := run_of_issueAll_cons h
  obtain ⟨hrun6, h⟩ := run_of_issueAll_cons h
  obtain ⟨hrun5, h⟩ := run_of_issueAll_cons h
  refine ⟨_, h, ?_⟩
  rw [readSR, hrun7, hrun6, hrun5]

/-- A code with a meaning. -/
theorem Body.run_readSR_matched {c : Channel} {u : SrUnmatched} {next : Nat → Body} {ops : List BusOp} {s t : State}
    {b7 b6 b5 : Word16} {ws : List Word16} {sr : Nat} (h : issueAll s (srReads c ++ ops) = some (b7 :: b6 :: b5 :: ws, t))
    (hsr : SrIs u (codeOf b7 b6 b5) sr) :
    ∃ v, issueAll v ops = some (ws, t) ∧ (Body.readSR c u next).run s = (next sr).run v := by
  obtain ⟨v, hrest, hrun⟩ := run_readSR_of_issueAll (u := u) (next := next) h
  rw [decSR_srByte hsr] at hrun
  exact ⟨v, hrest, hrun⟩

theorem decSR_srByte_unmatched {b7 b6 b5 : Word16} (hcode : 6 ≤ codeOf b7 b6 b5) :
    decSR .error (srByte (b7.getLsbD 0) (b6.getLsbD 0) (b5.getLsbD 0)) = .error .unrecognizedEncoding := by
  rw [decSR_eq, toNat_srByte_div, if_neg (by omega), if_neg (by decide)]

/-- A code without a meaning (R161). -/
theorem Body.run_readSR_unmatched {c : Channel} {u : SrUnmatched} {next : Nat → Body} {s t : State} {b7 b6 b5 : Word16}
    (h : issueAll s (srReads c) = some ([b7, b6, b5], t)) (hcode : 6 ≤ codeOf b7 b6 b5) (hu : u = .error) :
    (Body.readSR c u next).run s = t.raise .unrecognizedEncoding := by
  subst hu
  obtain ⟨v, hrest, hrun⟩ := run_readSR_of_issueAll (u := .error) (next := next) (ops := []) h
  rw [hrun, decSR_srByte_unmatched hcode, eq_of_issueAll_nil hrest]
  rfl

/-- The three reads alone. -/
theorem Body.run_readSR_last {c : Channel} {u : SrUnmatched} {next : Nat → Body} {s t : State} {b7 b6 b5 : Word16} {sr : Nat}
    (h : issueAll s (srReads c) = some ([b7, b6, b5], t)) (hsr : SrIs u (codeOf b7 b6 b5) sr) :
    (Body.readSR c u next).run s = (next sr).run t := by
  obtain ⟨v, hrest, hrun⟩ := run_readSR_matched (next := next) (ops := []) h hsr
  rw [hrun, eq_of_issueAll_nil hrest]

/-- A command on a legal channel ends as its body does. -/
theorem exec_eq_of_run {i : Instr} {ch : BitVec 3} {c : Channel} {s t : State} (hi : i.channel = some ch)
    (hch : ch.toNat = c.index + 1) (h : (channelBody i c s).run (start i c s) = t) : exec i s = .next t :=
  h ▸ exec_channel hi (channelOf_of_index hch) s

/-! The rate gets. -/

/-- A rate get with a signal and a code with a meaning (R164, R173 to R187). -/
theorem exec_rateGet_signal {tag : RateTag} {ch : BitVec 3} {c : Channel} {s s1 : State} {wt b7 b6 b5 : Word16} {sr : Nat} {v : Rat}
    (hch : ch.toNat = c.index + 1) (h : issueAll s.accept (rateReads c) = some ([wt, b7, b6, b5], s1)) (h0 : wt.toNat / 32 ≠ 0)
    (h1 : wt.toNat / 32 ≠ 2047) (hsr : SrIs s.params.srUnmatched (codeOf b7 b6 b5) sr)
    (hv : rateValue tag (((sr * 8192 : Nat) : Rat) / ((wt.toNat / 32 : Nat) : Rat)) (s.ppr.get c).toNat (s.ppm3.get c).toNat = v) :
    exec (tag.getInstr ch) s = .next (s1.respond (.ok v)) := by
  rw [exec_getInstr, channelCommand_legal s _ (channelOf_of_index hch), rateGet_of_issueAll h h0 h1 hsr]
  exact congrArg (fun x => Host.Outcome.next (s1.respond (.ok x))) hv

/-! The target get and set. -/

/-! GET.TGT after its target read, by the raw target (R189). -/

theorem targetGet_body_zero {t : BitVec 11} (h : t.toNat = 0) (c : Channel) (s : State) :
    Body.targetGet c t s = .respond (.error .noSignal) :=
  if_pos h

theorem targetGet_body_sentinel {t : BitVec 11} {s : State} (h : t.toNat = 2047 ∧ s.params.tgtSentinelDecode = .zero) (c : Channel) :
    Body.targetGet c t s = .respond (.ok 0) := by
  have hne : t.toNat ≠ 0 := by omega
  exact (if_neg hne).trans (if_pos h)

theorem targetGet_body_value {t : BitVec 11} {s : State} (h0 : t.toNat ≠ 0)
    (h : ¬(t.toNat = 2047 ∧ s.params.tgtSentinelDecode = .zero)) (c : Channel) :
    Body.targetGet c t s =
      .readSR c s.params.srUnmatched fun sr => .respond (tgtDec s.params.tgtSentinelDecode t sr (s.ppr.get c).toNat) :=
  (if_neg h0).trans (if_neg h)

/-- The body of SET.TGT for an RPM other than 0 (R206). -/
theorem setTgt_body_of_ne_zero {c : Channel} {s : State} (h : s.req.wdata.toNat ≠ 0) :
    Body.setTgt c s = .readSR c s.params.srUnmatched fun sr =>
      .withEncoded (tgtEnc s.req.wdata.toNat sr (s.ppr.get c).toNat) fun t => .withEncoded (encTach t) fun w =>
        .lastWrite (.memWrite (offTgt c) w) :=
  if_neg h

/-- The register word of a target or a duty is the shifted number. -/
theorem encTach_eq {t : Nat} (ht : t ≤ 2047) : encTach t = .ok (BitVec.ofNat 16 (t * 32)) := by
  obtain ⟨w, henc, hw⟩ := encTach_of_le ht
  rw [henc, ← hw, BitVec.ofNat_toNat, BitVec.setWidth_eq]

theorem encDuty_eq {v : Nat} (hv : v ≤ 511) : encDuty v = .ok (BitVec.ofNat 16 (v * 128)) := by
  obtain ⟨w, henc, hw⟩ := encDuty_of_le hv
  rw [henc, ← hw, BitVec.ofNat_toNat, BitVec.setWidth_eq]

theorem getLsbD_srCode (k : Nat) {j : Nat} (hj : j < 3) : (BitVec.ofNat 3 k).getLsbD j = k.testBit j := by
  rw [BitVec.getLsbD_ofNat, decide_eq_true hj, Bool.true_and]

/-- The body of SET.SR for 2^k (R202). -/
theorem setSr_body_two_pow {k : Nat} (hk : k ≤ 5) (c : Channel) :
    Body.withEncoded (encSR (2 ^ k)) (.setSr c) =
      .issue (.bitWrite (offDyn c) 7 (k.testBit 2)) fun _ => .issue (.bitWrite (offDyn c) 6 (k.testBit 1)) fun _ =>
        .lastWrite (.bitWrite (offDyn c) 5 (k.testBit 0)) := by
  rw [encSR_two_pow hk, Body.withEncoded, Body.setSr, getLsbD_srCode k (by decide), getLsbD_srCode k (by decide),
    getLsbD_srCode k (by decide)]

end Sys2Proof.Machine

namespace Sys2Proof
open Sys2Proof.Machine

/-- Settles O9: one transaction and its leaf; the fields are quotients of the word read. -/
theorem oneTransactionGetsAnswer : Obligations.OneTransactionGetsAnswer := by
  intro s s1 ch c w hch
  refine ⟨fun h => ⟨?pwm, ?spd⟩, fun h => ?tac, fun h => ?mode⟩ <;> refine exec_eq_of_run rfl hch ((Body.run_of_issueAll_one h).trans ?_)
  case pwm => rw [Body.run, toNat_decDuty]
  case spd =>
    rw [Body.run, percentOf, toNat_decDuty]
    push_cast
    rfl
  case tac => rw [Body.run, toNat_decTach]
  case mode =>
    rw [Body.run]
    cases w.getLsbD 0 <;> simp

/-- Settles O10: the three reads, then the code they spell. -/
theorem speedRangeGetAnswers : Obligations.SpeedRangeGetAnswers := by
  intro s s1 ch c b7 b6 b5 hch h
  refine ⟨fun hcode => ?_, fun hcode hu => ?_, fun hcode hu => ?_⟩ <;> refine exec_eq_of_run rfl hch ?_
  · exact Body.run_readSR_last h (.inl ⟨hcode, rfl⟩)
  · exact Body.run_readSR_last h (.inr ⟨hcode, hu, rfl⟩)
  · exact Body.run_readSR_unmatched h hcode hu

/-- Settles O11: the value of each tag as one fraction. -/
theorem pulseAndRevolutionGetsAnswer : Obligations.PulseAndRevolutionGetsAnswer := by
  rintro s s1 ch c wt b7 b6 b5 _ sr _ _ hch h rfl h0 h1 hsr rfl rfl
  refine ⟨exec_rateGet_signal (tag := .pps) hch h h0 h1 hsr rfl, exec_rateGet_signal (tag := .ppm) hch h h0 h1 hsr ?_,
    exec_rateGet_signal (tag := .pph) hch h h0 h1 hsr ?_, exec_rateGet_signal (tag := .rps) hch h h0 h1 hsr ?_,
    exec_rateGet_signal (tag := .rpm) hch h h0 h1 hsr ?_, exec_rateGet_signal (tag := .rph) hch h h0 h1 hsr ?_⟩
  all_goals
    generalize wt.toNat / 32 = t
    simp only [rateValue]
    push_cast
    ring

/-- Settles O12: the same for the flow rates, with the gallon in lowest terms. -/
theorem flowGetsAnswer : Obligations.FlowGetsAnswer := by
  rintro s s1 ch c wt b7 b6 b5 _ sr _ _ hch h rfl h0 h1 hsr rfl rfl
  refine ⟨exec_rateGet_signal (tag := .m3ps) hch h h0 h1 hsr ?_, exec_rateGet_signal (tag := .m3pm) hch h h0 h1 hsr ?_,
    exec_rateGet_signal (tag := .m3ph) hch h h0 h1 hsr ?_, exec_rateGet_signal (tag := .lps) hch h h0 h1 hsr ?_,
    exec_rateGet_signal (tag := .lpm) hch h h0 h1 hsr ?_, exec_rateGet_signal (tag := .lph) hch h h0 h1 hsr ?_,
    exec_rateGet_signal (tag := .gps) hch h h0 h1 hsr ?_, exec_rateGet_signal (tag := .gpm) hch h h0 h1 hsr ?_,
    exec_rateGet_signal (tag := .gph) hch h h0 h1 hsr ?_⟩
  all_goals
    generalize wt.toNat / 32 = t
    simp only [rateValue, pulsesPerLitre, pulsesPerGallon, gal_eq]
    push_cast
    ring

/-- Settles O14: the three cases of the raw target, the last through ReadSR. -/
theorem targetGetAnswers : Obligations.TargetGetAnswers := by
  intro s s1 ch c wt hch
  refine ⟨fun h => ⟨fun hzero => ?zero, fun hsat hmode => ?sentinel⟩, fun b7 b6 b5 sr h h0 hmode => ?value⟩
  case zero =>
    refine exec_eq_of_run rfl hch ((Body.run_of_issueAll_one h).trans ?_)
    rw [← toNat_decTach] at hzero
    rw [targetGet_body_zero hzero]
    rfl
  case sentinel =>
    refine exec_eq_of_run rfl hch ((Body.run_of_issueAll_one h).trans ?_)
    rw [← toNat_decTach] at hsat
    rw [targetGet_body_sentinel ⟨hsat, hmode⟩]
    rfl
  case value =>
    rw [← toNat_decTach] at h0 hmode
    have hnot : ¬((decTach wt).toNat = 2047 ∧ s.params.tgtSentinelDecode = .zero) := by
      rintro ⟨hsat, hzero⟩
      cases hzero.symm.trans (hmode hsat)
    obtain ⟨hrun, hbits⟩ := Body.run_of_issueAll_cons (next := fun w => Body.targetGet c (decTach w) s) h
    rw [targetGet_body_value h0 hnot] at hrun
    refine ⟨fun hsr => ?_, fun hcode hu => ?_⟩ <;> refine exec_eq_of_run rfl hch (hrun.trans ?_)
    · rw [Body.run_readSR_last hbits hsr, tgtDec_value h0 hnot, toNat_decTach]
      have hnum : 60 * sr * 8192 = 491520 * sr := by omega
      rw [hnum]
      rfl
    · exact Body.run_readSR_unmatched hbits hcode hu

/-- Settles O15: the operand check, then the one write. -/
theorem dutySetWrites : Obligations.DutySetWrites := by
  intro s s1 ch c w0 hch
  refine ⟨fun hle h => ?_, fun hgt => ?_⟩ <;> refine exec_eq_of_run rfl hch ?_ <;> rw [channelBody, Request.wnum]
  · rw [encDuty_eq hle]
    exact Body.run_lastWrite_of_issueAll h
  · rw [encDuty_of_gt hgt]
    rfl

/-- Settles O16: the code of 2^k is k, and its three bits are written one by one. -/
theorem speedRangeSetWrites : Obligations.SpeedRangeSetWrites := by
  intro s s1 ch c k w2 w1 w0 hch
  refine ⟨fun hk hw h => ?_, fun hnot => ?_⟩ <;> refine exec_eq_of_run rfl hch ?_ <;> rw [channelBody, Request.wnum]
  · rw [hw, setSr_body_two_pow hk]
    obtain ⟨hrun7, h⟩ := Body.run_of_issueAll_cons h
    obtain ⟨hrun6, h⟩ := Body.run_of_issueAll_cons h
    exact hrun7.trans (hrun6.trans (Body.run_lastWrite_of_issueAll h))
  · rw [encSR_of_not_mem hnot]
    rfl

/-- Settles O17: the one write. -/
theorem modeSetWrites : Obligations.ModeSetWrites :=
  fun _ _ _ _ _ hch h => exec_eq_of_run rfl hch (Body.run_lastWrite_of_issueAll h)

/-- Settles O18: the sentinel, or ReadSR and the encoding of the target. -/
theorem targetSetWrites : Obligations.TargetSetWrites := by
  intro s s1 ch c b7 b6 b5 w0 sr tg hch
  have hne (h : s.req.wdata ≠ 0) : s.req.wdata.toNat ≠ 0 := fun hzero => h (BitVec.eq_of_toNat_eq hzero)
  refine ⟨fun hzero h => ?sentinel, fun hw hsr htg => ⟨fun h1 h2 h => ?legal, fun hout h => ?outside⟩, fun hw hcode hu h => ?unmatched⟩ <;>
    refine exec_eq_of_run rfl hch ?_ <;> rw [channelBody]
  case sentinel =>
    have hnum : s.req.wnum = 0 := congrArg BitVec.toNat hzero
    rw [Body.setTgt, if_pos hnum]
    exact Body.run_lastWrite_of_issueAll h
  case legal =>
    obtain ⟨v, hwrite, hrun⟩ := Body.run_readSR_matched h hsr
    rw [setTgt_body_of_ne_zero (hne hw)]
    refine hrun.trans ?_
    rw [(tgtEnc_eq_ok_iff (hne hw)).mpr ⟨htg, h1, h2⟩, Body.withEncoded, encTach_eq (by omega)]
    exact Body.run_lastWrite_of_issueAll hwrite
  case outside =>
    rw [setTgt_body_of_ne_zero (hne hw)]
    refine (Body.run_readSR_last h hsr).trans ?_
    rw [tgtEnc_of_ne_zero (hne hw), ← htg, if_neg (by omega)]
    rfl
  case unmatched =>
    rw [setTgt_body_of_ne_zero (hne hw)]
    exact Body.run_readSR_unmatched h hcode hu

end Sys2Proof

/-! PROOFS. Counts and statuses from the paths of the bodies (42_get_commands.md R191, 43_set_commands.md R208, 60_exceptions.md R245, R247). A
path whose transactions all succeed ends in a leaf, so the recorded transactions say how far the command went and what it answered. -/

namespace Sys2Proof.Machine

/-! The paths of a tree, by its shape. -/

theorem Body.Answers.of_respond {dev : Nat} {r r' : Result} {l : List Transaction} (h : (Body.respond r).Answers dev l r') :
    l = [] ∧ r' = r := by
  cases h
  exact ⟨rfl, rfl⟩

theorem Body.Answers.of_issue {dev : Nat} {op : BusOp} {next : Word16 → Body} {l : List Transaction} {r : Result}
    (h : (Body.issue op next).Answers dev l r) : ∃ w l', l = doneTransaction dev op w :: l' ∧ (next w).Answers dev l' r := by
  cases h with
  | issue h => exact ⟨_, _, rfl, h⟩

/-- The three reads of ReadSR as they are recorded. -/
def srTransactions (dev : Nat) (c : Channel) (b7 b6 b5 : Word16) : List Transaction :=
  [doneTransaction dev (.bitRead (offDyn c) 7) b7, doneTransaction dev (.bitRead (offDyn c) 6) b6,
    doneTransaction dev (.bitRead (offDyn c) 5) b5]

theorem Body.Answers.of_withEncoded {α : Type} {dev : Nat} {e : Except Status α} {next : α → Body} {l : List Transaction} {r : Result}
    (h : (Body.withEncoded e next).Answers dev l r) :
    (∃ a, e = .ok a ∧ (next a).Answers dev l r) ∨ (∃ st, e = .error st ∧ l = [] ∧ r = .error st) := by
  cases e with
  | ok a => exact .inl ⟨a, rfl, h⟩
  | error st => exact .inr ⟨st, rfl, h.of_respond⟩

/-- ReadSR either goes on with a speed range, or stops with UnrecognizedEncoding after its three reads. -/
theorem Body.Answers.of_readSR {dev : Nat} {c : Channel} {u : SrUnmatched} {next : Nat → Body} {l : List Transaction} {r : Result}
    (h : (Body.readSR c u next).Answers dev l r) : ∃ b7 b6 b5 l', l = srTransactions dev c b7 b6 b5 ++ l' ∧
      ((∃ sr, (next sr).Answers dev l' r) ∨ (u = .error ∧ 6 ≤ codeOf b7 b6 b5 ∧ l' = [] ∧ r = .error .unrecognizedEncoding)) := by
  obtain ⟨b7, _, rfl, h7⟩ := h.of_issue
  obtain ⟨b6, _, rfl, h6⟩ := h7.of_issue
  obtain ⟨b5, l', rfl, h5⟩ := h6.of_issue
  refine ⟨b7, b6, b5, l', rfl, ?_⟩
  rcases h5.of_withEncoded with ⟨sr, _, hnext⟩ | ⟨st, hdec, hl, hr⟩
  · exact .inl ⟨sr, hnext⟩
  · rw [decSR_eq, toNat_srByte_div] at hdec
    split_ifs at hdec with hcode hu
    cases hdec
    cases u with
    | alias32 => exact absurd rfl hu
    | error => exact .inr ⟨rfl, by omega, hl, hr⟩

/-- ReadSR as the end of a GET: three reads. -/
theorem Body.Answers.length_readSR {dev : Nat} {c : Channel} {u : SrUnmatched} {f : Nat → Result} {l : List Transaction} {r : Result}
    (h : (Body.readSR c u fun sr => .respond (f sr)).Answers dev l r) : l.length = 3 := by
  obtain ⟨b7, b6, b5, l', rfl, ⟨sr, hnext⟩ | ⟨_, _, rfl, _⟩⟩ := h.of_readSR
  · rw [hnext.of_respond.1]
    rfl
  · rfl

theorem Body.Answers.length_lastWrite {dev : Nat} {op : BusOp} {l : List Transaction} {r : Result}
    (h : (Body.lastWrite op).Answers dev l r) : l.length = 1 ∧ r = .ok 0 := by
  obtain ⟨w, l', rfl, hleaf⟩ := h.of_issue
  obtain ⟨rfl, hr⟩ := hleaf.of_respond
  exact ⟨rfl, hr⟩

/-- The body of a command whose transactions all succeeded. -/
theorem answers_of_exec {i : Instr} {s t : State} {ch : BitVec 3} {c : Channel} (h : exec i s = .next t) (hnone : noneFailed t)
    (hi : i.channel = some ch) (hch : ch.toNat = c.index + 1) :
    ∃ r, t.response = some r ∧ (channelBody i c s).Answers s.params.devAddr t.trace r := by
  have hruns : Runs i s (channelBody i c s) (start i c s) := .onChannel hi hch
  cases eq_run_of_exec h hi hch
  obtain ⟨r, hphase, hanswers⟩ := hruns.shows.answers hnone
  exact ⟨r, response_eq_some.mpr hphase, hanswers⟩

theorem trace_of_no_bus {i : Instr} {s t : State} (h : exec i s = .next t) (hnone : ∀ op, ¬ MayIssueOnChannel i s op) :
    t.trace = [] := by
  obtain ⟨b, u, hruns, rfl⟩ := runs_of_exec h
  obtain ⟨_, _, htrace⟩ := hruns.no_bus hnone
  exact htrace

/-- RateGet stops after its count, or reads the speed range too (R191). -/
theorem Body.Answers.of_rateGet {dev : Nat} {tag : RateTag} {c : Channel} {s : State} {l : List Transaction} {r : Result}
    (h : (Body.rateGet tag c s).Answers dev l r) : ∃ w rest, l = doneTransaction dev (.memRead (offTach c)) w :: rest ∧
      rest.length = (if w.toNat / 32 = 0 ∨ w.toNat / 32 = 2047 then 0 else 3) := by
  obtain ⟨w, rest, rfl, hrest⟩ := h.of_issue
  refine ⟨w, rest, rfl, ?_⟩
  rw [← toNat_decTach]
  split at hrest
  next hstalled =>
    rw [hrest.of_respond.1]
    exact (if_pos hstalled).symm
  next hsignal =>
    rw [hrest.length_readSR]
    exact (if_neg hsignal).symm

/-- GET.TGT after its target read (R191). -/
theorem Body.Answers.of_targetGet {dev : Nat} {c : Channel} {t : BitVec 11} {s : State} {l : List Transaction} {r : Result}
    (h : (Body.targetGet c t s).Answers dev l r) :
    l.length = (if t.toNat = 0 ∨ (t.toNat = 2047 ∧ s.params.tgtSentinelDecode = .zero) then 0 else 3) := by
  by_cases hzero : t.toNat = 0
  · rw [targetGet_body_zero hzero] at h
    rw [if_pos (.inl hzero), h.of_respond.1]
    rfl
  by_cases hsentinel : t.toNat = 2047 ∧ s.params.tgtSentinelDecode = .zero
  · rw [targetGet_body_sentinel hsentinel] at h
    rw [if_pos (.inr hsentinel), h.of_respond.1]
    rfl
  · rw [targetGet_body_value hzero hsentinel] at h
    rw [if_neg (not_or.mpr ⟨hzero, hsentinel⟩), h.length_readSR]

/-- SET.TGT for an RPM other than 0: four transactions and OK, or the three reads and a status (R208). -/
theorem Body.Answers.of_setTgt {dev : Nat} {c : Channel} {s : State} {l : List Transaction} {r : Result}
    (h : (Body.setTgt c s).Answers dev l r) (hw : s.req.wdata.toNat ≠ 0) :
    (r = .ok 0 ∧ l.length = 4) ∨ ∃ b7 b6 b5 st, r = .error st ∧ l = srTransactions dev c b7 b6 b5 := by
  rw [setTgt_body_of_ne_zero hw] at h
  obtain ⟨b7, b6, b5, l', rfl, ⟨sr, h⟩ | ⟨_, _, rfl, hr⟩⟩ := h.of_readSR
  · rcases h.of_withEncoded with ⟨tg, _, h⟩ | ⟨st, _, rfl, hr⟩
    · rcases h.of_withEncoded with ⟨w, _, h⟩ | ⟨st, _, rfl, hr⟩
      · obtain ⟨hlength, hr⟩ := h.length_lastWrite
        exact .inl ⟨hr, by rw [List.length_append, hlength]; rfl⟩
      · exact .inr ⟨b7, b6, b5, st, hr, List.append_nil _⟩
    · exact .inr ⟨b7, b6, b5, st, hr, List.append_nil _⟩
  · exact .inr ⟨b7, b6, b5, _, hr, List.append_nil _⟩

theorem mayWrite_of_srTransactions {dev : Nat} {c : Channel} {b7 b6 b5 : Word16} {x : Transaction}
    (h : x ∈ srTransactions dev c b7 b6 b5) : x.op.mayWrite = [] := by
  simp only [srTransactions, List.mem_cons, List.not_mem_nil, or_false] at h
  rcases h with rfl | rfl | rfl <;> rfl

end Sys2Proof.Machine

namespace Sys2Proof
open Sys2Proof.Machine

/-- Settles O36: the length of each path of each GET. -/
theorem transactionCountsGet : Obligations.TransactionCountsGet := by
  intro i s t ch h hnone
  refine ⟨fun hi => ?immediate, fun hch hi => trace_of_no_bus h (not_mayIssue_of_illegal hi hch), fun c hch =>
    ⟨fun hi => ?one, fun hi => ?speedRange, fun tag hi => ?rate, fun hi => ?target⟩⟩
  case immediate =>
    refine trace_of_no_bus h ?_
    rintro op ⟨_, _, _, _, hop⟩
    simp only [List.mem_cons, List.not_mem_nil, or_false] at hi
    rcases hi with rfl | rfl | rfl | rfl | rfl <;> cases hop
  case one =>
    simp only [List.mem_cons, List.not_mem_nil, or_false] at hi
    rcases hi with rfl | rfl | rfl | rfl <;>
    · obtain ⟨r, _, hanswers⟩ := answers_of_exec h hnone rfl hch
      obtain ⟨w, l, htrace, hanswers⟩ := hanswers.of_issue
      rw [htrace, hanswers.of_respond.1]
      rfl
  case speedRange =>
    subst hi
    obtain ⟨r, _, hanswers⟩ := answers_of_exec h hnone rfl hch
    exact hanswers.length_readSR
  case rate =>
    have hchannel : i.channel = some ch := by rw [hi]; cases tag <;> rfl
    have hbody : channelBody i c s = Body.rateGet tag c s := by rw [hi]; cases tag <;> rfl
    obtain ⟨r, _, hanswers⟩ := answers_of_exec h hnone hchannel hch
    rw [hbody] at hanswers
    exact hanswers.of_rateGet
  case target =>
    subst hi
    obtain ⟨r, _, hanswers⟩ := answers_of_exec h hnone rfl hch
    obtain ⟨w, rest, htrace, hanswers⟩ := hanswers.of_issue
    exact ⟨w, rest, htrace, toNat_decTach w ▸ hanswers.of_targetGet⟩

/-- Settles O37: the length of each path of each SET. -/
theorem transactionCountsSet : Obligations.TransactionCountsSet := by
  intro i s t ch c hch h hnone
  refine ⟨fun hi => ?calibration, fun hi => ?duty, fun hi => ?mode, fun hi => ?speedRange, fun hi hw => ?sentinel, fun hi hw => ?target⟩
  case calibration =>
    refine trace_of_no_bus h ?_
    rintro op ⟨_, _, _, _, hop⟩
    simp only [List.mem_cons, List.not_mem_nil, or_false] at hi
    rcases hi with rfl | rfl | rfl <;> cases hop
  all_goals
    subst hi
    obtain ⟨r, hresponse, hanswers⟩ := answers_of_exec h hnone rfl hch
    rw [channelBody] at hanswers
  case duty =>
    split
    next hle =>
      rw [Request.wnum, encDuty_eq hle] at hanswers
      exact (Body.Answers.length_lastWrite hanswers).1
    next hgt =>
      rw [Request.wnum, encDuty_of_gt (not_le.mp hgt)] at hanswers
      rw [(Body.Answers.of_respond hanswers).1]
      rfl
  case mode => exact hanswers.length_lastWrite.1
  case speedRange =>
    split
    next hmem =>
      obtain ⟨k, hk, hpow⟩ := mem_srset_iff.mp hmem
      rw [Request.wnum, hpow, encSR_two_pow hk] at hanswers
      obtain ⟨_, _, htrace7, hanswers⟩ := Body.Answers.of_issue hanswers
      obtain ⟨_, _, htrace6, hanswers⟩ := hanswers.of_issue
      rw [htrace7, htrace6, List.length_cons, List.length_cons, hanswers.length_lastWrite.1]
    next hnot =>
      rw [Request.wnum, encSR_of_not_mem hnot] at hanswers
      rw [(Body.Answers.of_respond hanswers).1]
      rfl
  case sentinel =>
    rw [Body.setTgt, if_pos (c := s.req.wnum = 0) hw] at hanswers
    exact hanswers.length_lastWrite.1
  case target =>
    rcases hanswers.of_setTgt hw with ⟨rfl, hlength⟩ | ⟨b7, b6, b5, st, rfl, htrace⟩
    · refine ⟨fun _ => hlength, fun hst => ?_⟩
      rw [hresponse] at hst
      rcases hst with hst | hst <;> cases hst
    · refine ⟨fun hok => ?_, fun _ => ⟨by rw [htrace]; rfl, fun x hx => mayWrite_of_srTransactions (htrace ▸ hx)⟩⟩
      rw [hresponse] at hok
      cases hok

end Sys2Proof

/-! PROOFS. UnrecognizedEncoding and NoSignal (60_exceptions.md R245, R247). A path that ends in UnrecognizedEncoding is one that ReadSR stopped;
and bit 7 of a Fan dynamics register is read by ReadSR alone, so three recorded reads of a code without a meaning are such a stop. -/

namespace Sys2Proof.Machine

/-! Which rows of the table raise the two statuses. -/

/-- NoSignal stands in the rows of the rate gets, the rate kernels, GET.TGT and KTGT.DEC. -/
theorem of_noSignal_mem_raisable {i : Instr} (h : .noSignal ∈ raisable i) :
    i = .ktgtDec ∨ (∃ ch, i = .getTgt ch) ∨ ∃ tag : RateTag, i = tag.kernelInstr ∨ ∃ ch, i = tag.getInstr ch := by
  cases i with
  | ktgtDec => exact .inl rfl
  | getTgt ch => exact .inr (.inl ⟨ch, rfl⟩)
  | getPps ch => exact .inr (.inr ⟨.pps, .inr ⟨ch, rfl⟩⟩)
  | getPpm ch => exact .inr (.inr ⟨.ppm, .inr ⟨ch, rfl⟩⟩)
  | getPph ch => exact .inr (.inr ⟨.pph, .inr ⟨ch, rfl⟩⟩)
  | getRps ch => exact .inr (.inr ⟨.rps, .inr ⟨ch, rfl⟩⟩)
  | getRpm ch => exact .inr (.inr ⟨.rpm, .inr ⟨ch, rfl⟩⟩)
  | getRph ch => exact .inr (.inr ⟨.rph, .inr ⟨ch, rfl⟩⟩)
  | getM3ps ch => exact .inr (.inr ⟨.m3ps, .inr ⟨ch, rfl⟩⟩)
  | getM3pm ch => exact .inr (.inr ⟨.m3pm, .inr ⟨ch, rfl⟩⟩)
  | getM3ph ch => exact .inr (.inr ⟨.m3ph, .inr ⟨ch, rfl⟩⟩)
  | getLps ch => exact .inr (.inr ⟨.lps, .inr ⟨ch, rfl⟩⟩)
  | getLpm ch => exact .inr (.inr ⟨.lpm, .inr ⟨ch, rfl⟩⟩)
  | getLph ch => exact .inr (.inr ⟨.lph, .inr ⟨ch, rfl⟩⟩)
  | getGps ch => exact .inr (.inr ⟨.gps, .inr ⟨ch, rfl⟩⟩)
  | getGpm ch => exact .inr (.inr ⟨.gpm, .inr ⟨ch, rfl⟩⟩)
  | getGph ch => exact .inr (.inr ⟨.gph, .inr ⟨ch, rfl⟩⟩)
  | kconvPps => exact .inr (.inr ⟨.pps, .inl rfl⟩)
  | kconvPpm => exact .inr (.inr ⟨.ppm, .inl rfl⟩)
  | kconvPph => exact .inr (.inr ⟨.pph, .inl rfl⟩)
  | kconvRps => exact .inr (.inr ⟨.rps, .inl rfl⟩)
  | kconvRpm => exact .inr (.inr ⟨.rpm, .inl rfl⟩)
  | kconvRph => exact .inr (.inr ⟨.rph, .inl rfl⟩)
  | kconvM3ps => exact .inr (.inr ⟨.m3ps, .inl rfl⟩)
  | kconvM3pm => exact .inr (.inr ⟨.m3pm, .inl rfl⟩)
  | kconvM3ph => exact .inr (.inr ⟨.m3ph, .inl rfl⟩)
  | kconvLps => exact .inr (.inr ⟨.lps, .inl rfl⟩)
  | kconvLpm => exact .inr (.inr ⟨.lpm, .inl rfl⟩)
  | kconvLph => exact .inr (.inr ⟨.lph, .inl rfl⟩)
  | kconvGps => exact .inr (.inr ⟨.gps, .inl rfl⟩)
  | kconvGpm => exact .inr (.inr ⟨.gpm, .inl rfl⟩)
  | kconvGph => exact .inr (.inr ⟨.gph, .inl rfl⟩)
  | _ => simp [raisable] at h

theorem of_noSignal_mem_raisable_channel {i : Instr} {ch : BitVec 3} (h : .noSignal ∈ raisable i) (hi : i.channel = some ch) :
    i = .getTgt ch ∨ ∃ tag : RateTag, i = tag.getInstr ch := by
  rcases of_noSignal_mem_raisable h with rfl | ⟨_, rfl⟩ | ⟨tag, rfl | ⟨_, rfl⟩⟩
  · cases hi
  · cases hi
    exact .inl rfl
  · cases tag <;> cases hi
  · cases tag <;> cases hi <;> exact .inr ⟨_, rfl⟩

/-- UnrecognizedEncoding stands in the rows of KDEC.SR and of the commands that run ReadSR. -/
theorem of_unrecognizedEncoding_mem_raisable {i : Instr} (h : .unrecognizedEncoding ∈ raisable i) :
    i = .kdecSr ∨ ∃ ch, i.channel = some ch ∧
      (i = .getSr ch ∨ i = .getTgt ch ∨ i = .setTgt ch ∨ ∃ tag : RateTag, i = tag.getInstr ch) := by
  have hsignal {i : Instr} {ch : BitVec 3} (h : .noSignal ∈ raisable i) (hi : i.channel = some ch) :
      i = .getTgt ch ∨ i = .setTgt ch ∨ ∃ tag : RateTag, i = tag.getInstr ch :=
    (of_noSignal_mem_raisable_channel h hi).imp_right .inr
  cases i with
  | kdecSr => exact .inl rfl
  | getSr ch => exact .inr ⟨ch, rfl, .inl rfl⟩
  | setTgt ch => exact .inr ⟨ch, rfl, .inr (.inr (.inl rfl))⟩
  | getPps ch | getPpm ch | getPph ch | getRps ch | getRpm ch | getRph ch | getM3ps ch | getM3pm ch | getM3ph ch
  | getLps ch | getLpm ch | getLph ch | getGps ch | getGpm ch | getGph ch | getTgt ch =>
    exact .inr ⟨ch, rfl, .inr (hsignal List.mem_cons_self rfl)⟩
  | _ => simp [raisable] at h

/-! A path that ends in UnrecognizedEncoding. -/

/-- The recorded transactions end with the three reads of a code without a meaning, under SR_UNMATCHED = error. -/
def StoppedInReadSR (dev : Nat) (c : Channel) (u : SrUnmatched) (l : List Transaction) : Prop :=
  u = .error ∧ ∃ pre b7 b6 b5, 6 ≤ codeOf b7 b6 b5 ∧ l = pre ++ srTransactions dev c b7 b6 b5

theorem StoppedInReadSR.cons {dev : Nat} {c : Channel} {u : SrUnmatched} {l : List Transaction} (x : Transaction)
    (h : StoppedInReadSR dev c u l) : StoppedInReadSR dev c u (x :: l) := by
  obtain ⟨hu, pre, b7, b6, b5, hcode, rfl⟩ := h
  exact ⟨hu, x :: pre, b7, b6, b5, hcode, rfl⟩

/-- ReadSR is where it stopped, if nothing after ReadSR gives the status. -/
theorem stoppedInReadSR_of_readSR {dev : Nat} {c : Channel} {u : SrUnmatched} {next : Nat → Body} {l : List Transaction}
    (h : (Body.readSR c u next).Answers dev l (.error .unrecognizedEncoding))
    (hnext : ∀ sr l', ¬ (next sr).Answers dev l' (.error .unrecognizedEncoding)) : StoppedInReadSR dev c u l := by
  obtain ⟨b7, b6, b5, l', rfl, ⟨sr, hsr⟩ | ⟨hu, hcode, rfl, _⟩⟩ := h.of_readSR
  · exact absurd hsr (hnext sr l')
  · exact ⟨hu, [], b7, b6, b5, hcode, List.append_nil _⟩

theorem not_answers_respond {dev : Nat} {r r' : Result} {l : List Transaction} (h : r' ≠ r) : ¬ (Body.respond r).Answers dev l r' :=
  fun hanswers => h hanswers.of_respond.2

theorem conv_ne_unrecognizedEncoding (tag : RateTag) (count : BitVec 11) (sr ppr ppm3 : Nat) :
    .error .unrecognizedEncoding ≠ conv tag count sr ppr ppm3 :=
  fun h => nomatch conv_error h.symm

theorem stoppedInReadSR_of_rateGet {dev : Nat} {tag : RateTag} {c : Channel} {s : State} {l : List Transaction}
    (h : (Body.rateGet tag c s).Answers dev l (.error .unrecognizedEncoding)) : StoppedInReadSR dev c s.params.srUnmatched l := by
  obtain ⟨w, rest, rfl, hrest⟩ := h.of_issue
  split at hrest
  · exact absurd hrest (not_answers_respond nofun)
  · exact (stoppedInReadSR_of_readSR hrest fun sr _ => not_answers_respond (conv_ne_unrecognizedEncoding _ _ _ _ _)).cons _

theorem stoppedInReadSR_of_targetGet {dev : Nat} {c : Channel} {t : BitVec 11} {s : State} {l : List Transaction}
    (h : (Body.targetGet c t s).Answers dev l (.error .unrecognizedEncoding)) : StoppedInReadSR dev c s.params.srUnmatched l := by
  unfold Body.targetGet at h
  split at h
  · exact absurd h (not_answers_respond nofun)
  split at h
  · exact absurd h (not_answers_respond nofun)
  · exact stoppedInReadSR_of_readSR h fun sr _ => not_answers_respond fun hdec => nomatch tgtDec_error hdec.symm

theorem stoppedInReadSR_of_setTgt {dev : Nat} {c : Channel} {s : State} {l : List Transaction}
    (h : (Body.setTgt c s).Answers dev l (.error .unrecognizedEncoding)) : StoppedInReadSR dev c s.params.srUnmatched l := by
  unfold Body.setTgt at h
  split at h
  · cases h.length_lastWrite.2
  · refine stoppedInReadSR_of_readSR h fun sr l' hnext => ?_
    rcases hnext.of_withEncoded with ⟨tg, _, hnext⟩ | ⟨st, hst, _, hr⟩
    · rcases hnext.of_withEncoded with ⟨w, _, hnext⟩ | ⟨st, hst, _, hr⟩
      · cases hnext.length_lastWrite.2
      · cases hr
        cases encTach_error hst
    · cases hr
      cases tgtEnc_error hst

/-- Every command that runs ReadSR stopped there. -/
theorem stoppedInReadSR_of_answers {i : Instr} {c : Channel} {s : State} {ch : BitVec 3} {dev : Nat} {l : List Transaction}
    (hi : i = .getSr ch ∨ i = .getTgt ch ∨ i = .setTgt ch ∨ ∃ tag : RateTag, i = tag.getInstr ch)
    (h : (channelBody i c s).Answers dev l (.error .unrecognizedEncoding)) : StoppedInReadSR dev c s.params.srUnmatched l := by
  rcases hi with rfl | rfl | rfl | ⟨tag, rfl⟩
  · exact stoppedInReadSR_of_readSR h fun sr _ => not_answers_respond nofun
  · obtain ⟨w, rest, rfl, hrest⟩ := h.of_issue
    exact (stoppedInReadSR_of_targetGet hrest).cons _
  · exact stoppedInReadSR_of_setTgt h
  · cases tag <;> exact stoppedInReadSR_of_rateGet h

/-! Three recorded reads of a code without a meaning. -/

/-- Wherever a run records the reads of bits 7, 6 and 5 of a Fan dynamics register with a code of 6 or 7, it ends with
UnrecognizedEncoding. -/
def Body.StopsAtBadCode (b : Body) : Prop :=
  ∀ (dev : Nat) (l : List Transaction) (ph : Phase), b.Shows dev l ph →
    ∀ (c : Channel) (b7 b6 b5 : Word16) (pre post : List Transaction), 6 ≤ codeOf b7 b6 b5 →
      l = pre ++ srTransactions dev c b7 b6 b5 ++ post → ph = .responding (.error .unrecognizedEncoding)

theorem Body.stopsAtBadCode_respond (r : Result) : (Body.respond r).StopsAtBadCode := by
  intro dev l ph h c b7 b6 b5 pre post _ hl
  cases h
  simp [srTransactions] at hl

/-- What follows a transaction, when the three reads do not begin with it. -/
theorem srTransactions_of_cons {dev : Nat} {c : Channel} {b7 b6 b5 : Word16} {x : Transaction} {l pre post : List Transaction}
    (hx : ∀ w, x ≠ doneTransaction dev (.bitRead (offDyn c) 7) w) (h : x :: l = pre ++ srTransactions dev c b7 b6 b5 ++ post) :
    ∃ pre', l = pre' ++ srTransactions dev c b7 b6 b5 ++ post := by
  cases pre with
  | nil => exact absurd (List.cons.inj h).1 (hx b7)
  | cons y pre' => exact ⟨pre', (List.cons.inj h).2⟩

/-- A transaction other than the first read of ReadSR. -/
theorem Body.stopsAtBadCode_issue {op : BusOp} {next : Word16 → Body} (hop : ∀ c, op ≠ .bitRead (offDyn c) 7)
    (hnext : ∀ w, (next w).StopsAtBadCode) : (Body.issue op next).StopsAtBadCode := by
  intro dev l ph h c b7 b6 b5 pre post hcode hl
  have hfirst {x : Transaction} (hx : x.op = op) (w : Word16) : x ≠ doneTransaction dev (.bitRead (offDyn c) 7) w := by
    rintro rfl
    exact hop c hx.symm
  cases h with
  | done h =>
    obtain ⟨pre', hrest⟩ := srTransactions_of_cons (hfirst rfl) hl
    exact hnext _ dev _ ph h c b7 b6 b5 pre' post hcode hrest
  | failed | pending =>
    obtain ⟨pre', hrest⟩ := srTransactions_of_cons (hfirst rfl) hl
    simp [srTransactions] at hrest

theorem Body.stopsAtBadCode_withEncoded {α : Type} {e : Except Status α} {next : α → Body} (hnext : ∀ a, (next a).StopsAtBadCode) :
    (Body.withEncoded e next).StopsAtBadCode := by
  cases e with
  | ok a => exact hnext a
  | error st => exact stopsAtBadCode_respond _

/-- A transaction that is recorded as successful is the next one of the body. -/
theorem Body.Shows.of_done {dev : Nat} {op op' : BusOp} {w : Word16} {next : Word16 → Body} {l : List Transaction} {ph : Phase}
    (h : (Body.issue op next).Shows dev (doneTransaction dev op' w :: l) ph) : (next w).Shows dev l ph := by
  cases h
  assumption

/-- ReadSR under SR_UNMATCHED = error. -/
theorem Body.stopsAtBadCode_readSR {c : Channel} {next : Nat → Body} (hnext : ∀ sr, (next sr).StopsAtBadCode) :
    (Body.readSR c .error next).StopsAtBadCode := by
  have hbits {j : Fin 8} (hj : j ≠ 7) (d : Channel) : BusOp.bitRead (offDyn c) j ≠ .bitRead (offDyn d) 7 :=
    fun h => hj (BusOp.bitRead.inj h).2
  intro dev l ph h d b7 b6 b5 pre post hcode hl
  cases pre with
  | nil =>
    subst hl
    have hleaf := h.of_done.of_done.of_done
    rw [decSR_srByte_unmatched hcode] at hleaf
    cases hleaf
    rfl
  | cons x pre =>
    cases h with
    | done h =>
      have hrest := stopsAtBadCode_issue (hbits (by decide)) (fun b6 => stopsAtBadCode_issue (hbits (by decide)) fun b5 =>
        stopsAtBadCode_withEncoded hnext) dev _ ph h
      exact hrest d b7 b6 b5 pre post hcode (List.cons.inj hl).2
    | failed | pending => simp [srTransactions] at hl

theorem Body.stopsAtBadCode_ite {p : Prop} [Decidable p] {b b' : Body} (hb : b.StopsAtBadCode) (hb' : b'.StopsAtBadCode) :
    (if p then b else b').StopsAtBadCode := by
  split
  · exact hb
  · exact hb'

theorem Body.stopsAtBadCode_lastWrite {op : BusOp} (hop : ∀ c, op ≠ .bitRead (offDyn c) 7) : (Body.lastWrite op).StopsAtBadCode :=
  stopsAtBadCode_issue hop fun _ => stopsAtBadCode_respond _

theorem offCfg_ne_offDyn (c d : Channel) : offCfg c ≠ offDyn d := by
  intro h
  have hnat := congrArg BitVec.toNat h
  have hc := c.index_lt
  rw [toNat_offCfg, toNat_offDyn] at hnat
  omega

/-- Bit 7 of Fan dynamics is read by ReadSR alone. -/
theorem channelBody_stopsAtBadCode (i : Instr) (c : Channel) {s : State} (hu : s.params.srUnmatched = .error) :
    (channelBody i c s).StopsAtBadCode := by
  have hreadSR {next : Nat → Body} (hnext : ∀ sr, (next sr).StopsAtBadCode) :
      (Body.readSR c s.params.srUnmatched next).StopsAtBadCode := by
    rw [hu]
    exact Body.stopsAtBadCode_readSR hnext
  have hleaf := Body.stopsAtBadCode_respond
  cases i with
  | getPwm | getSpd | getTac => exact Body.stopsAtBadCode_issue nofun fun _ => hleaf _
  | getSr => exact hreadSR fun _ => hleaf _
  | getPps | getPpm | getPph | getRps | getRpm | getRph | getM3ps | getM3pm | getM3ph | getLps | getLpm | getLph | getGps | getGpm | getGph =>
    exact Body.stopsAtBadCode_issue nofun fun _ => Body.stopsAtBadCode_ite (hleaf _) (hreadSR fun _ => hleaf _)
  | getMode =>
    exact Body.stopsAtBadCode_issue (fun d h => offCfg_ne_offDyn c d (BusOp.bitRead.inj h).1) fun _ => hleaf _
  | getTgt =>
    exact Body.stopsAtBadCode_issue nofun fun _ => Body.stopsAtBadCode_ite (hleaf _)
      (Body.stopsAtBadCode_ite (hleaf _) (hreadSR fun _ => hleaf _))
  | setPwm => exact Body.stopsAtBadCode_withEncoded fun _ => Body.stopsAtBadCode_lastWrite nofun
  | setSr =>
    exact Body.stopsAtBadCode_withEncoded fun _ => Body.stopsAtBadCode_issue nofun fun _ => Body.stopsAtBadCode_issue nofun fun _ =>
      Body.stopsAtBadCode_lastWrite nofun
  | setMode => exact Body.stopsAtBadCode_lastWrite nofun
  | setTgt =>
    exact Body.stopsAtBadCode_ite (Body.stopsAtBadCode_lastWrite nofun) (hreadSR fun _ => Body.stopsAtBadCode_withEncoded fun _ =>
      Body.stopsAtBadCode_withEncoded fun _ => Body.stopsAtBadCode_lastWrite nofun)
  | _ => exact hleaf _

theorem Runs.stopsAtBadCode {i : Instr} {s u : State} {b : Body} (h : Runs i s b u) (hu : s.params.srUnmatched = .error) :
    b.StopsAtBadCode := by
  cases h with
  | kernel | badChannel => exact Body.stopsAtBadCode_respond _
  | onChannel => exact channelBody_stopsAtBadCode i _ hu

/-! The statuses of a command are in its row. -/

theorem mem_raisable_of_response {i : Instr} {s t : State} {st : Status} (h : exec i s = .next t) (hst : t.response = some (.error st))
    (htransport : st ≠ .transportError) (hchannel : st ≠ .invalidChannel) : st ∈ raisable i := by
  obtain ⟨b, u, hruns, rfl⟩ := runs_of_exec h
  have hshows := hruns.shows
  rw [response_eq_some.mp hst] at hshows
  have hanswers := hshows.answers_of_ne fun he => htransport (Except.error.inj he)
  rcases hruns.within.answer hanswers with hbad | hrow
  · exact absurd (Except.error.inj hbad) hchannel
  · exact hrow st rfl

/-- KDEC.SR raises UnrecognizedEncoding exactly for a code without a meaning (R121). -/
theorem kdecSr_response_iff {s t : State} (h : exec .kdecSr s = .next t) :
    t.response = some (.error .unrecognizedEncoding) ↔ s.params.srUnmatched = .error ∧ 6 ≤ s.req.wdata.toNat / 32 % 8 := by
  cases (exec_kdecSr s).symm.trans h
  rw [response_eq_some, State.respond_phase, Phase.responding.injEq]
  split_ifs with hcode hu
  · exact ⟨nofun, fun ⟨_, hbad⟩ => by omega⟩
  · exact ⟨nofun, fun ⟨herror, _⟩ => nomatch hu.symm.trans herror⟩
  · refine ⟨fun _ => ⟨?_, by omega⟩, fun _ => rfl⟩
    cases hmode : s.params.srUnmatched with
    | error => rfl
    | alias32 => exact absurd hmode hu

end Sys2Proof.Machine

namespace Sys2Proof
open Sys2Proof.Machine

/-- Settles O40: the row of the command and the place where its path stopped; the trees that stop at a code without a meaning; the row again. -/
theorem statusesByCommand : Obligations.StatusesByCommand := by
  refine ⟨fun i s t h hresponse => ?raised, fun i s t h hu => ⟨fun hi hcode => ?kernel, fun c b7 b6 b5 pre post hcode htrace => ?read⟩,
    fun i s t h hresponse => of_noSignal_mem_raisable (mem_raisable_of_response h hresponse nofun nofun)⟩
  case raised =>
    rcases of_unrecognizedEncoding_mem_raisable (mem_raisable_of_response h hresponse nofun nofun) with rfl | ⟨ch, hchannel, hi⟩
    · obtain ⟨hu, hcode⟩ := (kdecSr_response_iff h).mp hresponse
      exact ⟨hu, .inl ⟨rfl, hcode⟩⟩
    · obtain ⟨b, u, hruns, rfl⟩ := runs_of_exec h
      have hshows := hruns.shows
      rw [response_eq_some.mp hresponse] at hshows
      have hanswers := hshows.answers_of_ne nofun
      cases hruns with
      | kernel hkernel _ => cases (isKernel_of_channel_eq_some hchannel).symm.trans hkernel
      | badChannel => cases hanswers
      | onChannel hchannel' hch =>
        cases hchannel.symm.trans hchannel'
        obtain ⟨hu, pre, b7, b6, b5, hcode, htrace⟩ := stoppedInReadSR_of_answers hi hanswers
        exact ⟨hu, .inr ⟨_, ch, b7, b6, b5, pre, hch, hi, hcode, htrace⟩⟩
  case kernel =>
    subst hi
    exact (kdecSr_response_iff h).mpr ⟨hu, hcode⟩
  case read =>
    obtain ⟨b, u, hruns, rfl⟩ := runs_of_exec h
    exact response_eq_some.mpr (hruns.stopsAtBadCode hu _ _ _ hruns.shows c b7 b6 b5 pre post hcode htrace)

end Sys2Proof

/-! PROOFS. What a SET leaves behind for the next command (43_set_commands.md R209) and what a SET.SR that fails halfway leaves
(70_reset_and_hazards.md R277). MEMBUS answers a list of transactions from the register image alone, so the data of a GET are read off the image
that the SET before it left. -/

namespace Sys2Proof.Machine

/-! One transaction, by the script of the environment. -/

theorem Env.next_of_script {e : Env} {a : BusAnswer} {rest : List BusAnswer} (h : e.script = a :: rest) :
    e.next = (a, { e with script := rest }) := by
  rw [Env.next, h]

/-- A transaction that completes on the register image. -/
theorem Body.run_issue_of_memory {s : State} {rest : List BusAnswer} (h : s.env.script = .memory :: rest) (op : BusOp) (next : Word16 → Body) :
    ∃ v, (Body.issue op next).run s = (next (imageAnswer s.chip op)).run v ∧ v.env.script = rest ∧ v.chip = imageAfter s.chip op ∧
      v.trace.length = s.trace.length + 1 := by
  have hnext := Env.next_of_script h
  refine ⟨(Machine.issue s op).2, bus_done _ ?_, ?_, ?_, issue_trace_length s op⟩
  · rw [issue_fst, hnext, outcomeOf]
  · rw [issue_env, hnext]
  · rw [issue_chip, hnext, chipAfter]

/-- A transaction that fails without effect. -/
theorem Body.run_issue_of_fail {s : State} {rest : List BusAnswer} (h : s.env.script = .fail none :: rest) (op : BusOp) (next : Word16 → Body) :
    ∃ v : State, (Body.issue op next).run s = v.raise .transportError ∧ v.chip = s.chip ∧ v.trace.length = s.trace.length + 1 := by
  have hnext := Env.next_of_script h
  have hfailed : (Machine.issue s op).1 = .failed := by rw [issue_fst, hnext, outcomeOf]
  have hchip : (Machine.issue s op).2.chip = s.chip := by rw [issue_chip, hnext, chipAfter, imageLeft]
  rcases bus_cases op s fun w u => (next w).run u with ⟨w, hdone, _⟩ | ⟨_, hrun⟩ | ⟨hpending, _⟩
  · cases hfailed.symm.trans hdone
  · exact ⟨_, hrun, hchip, issue_trace_length s op⟩
  · cases hfailed.symm.trans hpending

/-! The bits of a byte after a bit write. -/

theorem getLsbD_imageAfter_bitWrite (m : Memory) (off : Byte) (i : Fin 8) (v : Bool) {j : Nat} (hj : j < 8) :
    (readByte (imageAfter m (.bitWrite off i v)) off.toNat).getLsbD j = if j = i.val then v else (readByte m off.toNat).getLsbD j := by
  rw [imageAfter, readByte_writeByte_same]
  exact (getLsbD_setBit (readByte m off.toNat) i v ⟨j, hj⟩).trans (if_congr Fin.ext_iff rfl rfl)

/-! MEMBUS. -/

theorem OnMembus.next {s : State} (h : OnMembus s) : s.env.next = (.memory, s.env) := by
  rw [Env.next, h.1, h.2]

/-- The data a list of transactions is answered from a register image. -/
def imageAnswers : Memory → List BusOp → List Word16
  | _, [] => []
  | m, op :: ops => imageAnswer m op :: imageAnswers (imageAfter m op) ops

/-- On MEMBUS every transaction succeeds. -/
theorem issueAll_of_onMembus {s₀ s : State} (hbus : OnMembus s) (hkept : Kept s₀ s) (ops : List BusOp) :
    ∃ t, issueAll s ops = some (imageAnswers s.chip ops, t) ∧ OnMembus t ∧ Kept s₀ t ∧ t.chip = ops.foldl imageAfter s.chip := by
  induction ops generalizing s with
  | nil => exact ⟨s, rfl, hbus, hkept, rfl⟩
  | cons op ops ih =>
    have hdone : (issue s op).1 = .done (imageAnswer s.chip op) := by rw [issue_fst, hbus.next, outcomeOf]
    have hchip : (issue s op).2.chip = imageAfter s.chip op := by rw [issue_chip, hbus.next, chipAfter]
    have hnext : OnMembus (issue s op).2 := by rwa [OnMembus, issue_env, hbus.next]
    obtain ⟨t, hall, hbus', hkept', hchip'⟩ := ih hnext (hkept.issue op)
    rw [hchip] at hall hchip'
    refine ⟨t, ?_, hbus', hkept', hchip'⟩
    rw [issueAll, ← Prod.mk.eta (p := issue s op), hdone]
    simp only [hall, imageAnswers]

/-- Bit 0 of the answer to a bit read is the bit. -/
theorem getLsbD_imageAnswer_bitRead (m : Memory) (off : Byte) (i : Fin 8) :
    (imageAnswer m (.bitRead off i)).getLsbD 0 = (readByte m off.toNat).getLsbD i := by
  rw [imageAnswer]
  split
  next hset => exact hset.symm
  next hclear => exact (Bool.eq_false_iff.mpr hclear).symm

/-- The speed-range code in a register image. -/
def imageCode (m : Memory) (c : Channel) : Nat :=
  codeOf (imageAnswer m (.bitRead (offDyn c) 7)) (imageAnswer m (.bitRead (offDyn c) 6)) (imageAnswer m (.bitRead (offDyn c) 5))

theorem imageCode_congr {m m' : Memory} {c : Channel} (h : readByte m' (offDyn c).toNat = readByte m (offDyn c).toNat) :
    imageCode m' c = imageCode m c := by
  simp only [imageCode, imageAnswer, h]

/-- The bit writes of SET.SR leave the code they spell. -/
theorem imageCode_srWrites (m : Memory) (c : Channel) {k : Nat} (hk : k ≤ 5) :
    imageCode ((srWrites c k).foldl imageAfter m) c = k := by
  have hbit {j : Nat} (hj : j < 8) (h5 : 5 ≤ j) :
      (readByte ((srWrites c k).foldl imageAfter m) (offDyn c).toNat).getLsbD j = k.testBit (j - 5) := by
    rw [srWrites, List.foldl, List.foldl, List.foldl, List.foldl, getLsbD_imageAfter_bitWrite _ _ _ _ hj,
      getLsbD_imageAfter_bitWrite _ _ _ _ hj, getLsbD_imageAfter_bitWrite _ _ _ _ hj]
    interval_cases j <;> rfl
  have hspelled : 4 * (k.testBit 2).toNat + 2 * (k.testBit 1).toNat + (k.testBit 0).toNat = k := by
    interval_cases k <;> rfl
  rw [imageCode, codeOf, getLsbD_imageAnswer_bitRead, getLsbD_imageAnswer_bitRead, getLsbD_imageAnswer_bitRead]
  rwa [hbit (by decide) (by decide), hbit (by decide) (by decide), hbit (by decide) (by decide)]

/-- SET.TGT writes no byte of Fan dynamics. -/
theorem imageCode_writeTarget (m : Memory) (c : Channel) (w : Word16) : imageCode (writeWord m (offTgt c) w) c = imageCode m c := by
  have hc := c.index_lt
  have hlow : (offDyn c).toNat ≠ (offTgt c).toNat := by
    rw [toNat_offDyn, toNat_offTgt]
    omega
  have hhigh : (offDyn c).toNat ≠ (offTgt c + 1).toNat := by
    rw [BitVec.toNat_add, toNat_offDyn, toNat_offTgt]
    change _ ≠ (_ + 1) % 256
    omega
  exact imageCode_congr (readByte_writeWord_other m (offTgt c) w hlow hhigh)

/-! The reads of a command on MEMBUS, from the register image it finds. -/

theorem exec_getSr_of_onMembus {s : State} {ch : BitVec 3} {c : Channel} {k : Nat} (hch : ch.toNat = c.index + 1) (hbus : OnMembus s)
    (hcode : imageCode s.chip c = k) (hk : k ≤ 5) :
    ∃ u, exec (.getSr ch) s = .next u ∧ u.response = some (.ok ((2 ^ k : Nat) : Rat)) := by
  subst hcode
  obtain ⟨u, hreads, _⟩ := issueAll_of_onMembus (s := s.accept) hbus (kept_accept s) (srReads c)
  exact ⟨_, (speedRangeGetAnswers s u ch c _ _ _ hch hreads).1 hk, rfl⟩

theorem exec_getPwm_of_onMembus {s : State} {ch : BitVec 3} {c : Channel} {base : DutyRdBase} {w : Word16} (hch : ch.toNat = c.index + 1)
    (hbus : OnMembus s) (hbase : s.params.dutyRdBase = base) (hword : readWord s.chip (offDutyRd base c) = w) :
    ∃ u, exec (.getPwm ch) s = .next u ∧ u.response = some (.ok ((w.toNat / 128 : Nat) : Rat)) := by
  subst hbase hword
  obtain ⟨u, hread, _⟩ := issueAll_of_onMembus (s := s.accept) hbus (kept_accept s) [.memRead (offDutyRd s.params.dutyRdBase c)]
  exact ⟨_, ((oneTransactionGetsAnswer s u ch c _ hch).1 hread).1, rfl⟩

theorem exec_getMode_of_onMembus {s : State} {ch : BitVec 3} {c : Channel} {v : Bool} (hch : ch.toNat = c.index + 1) (hbus : OnMembus s)
    (hbit : (readByte s.chip (offCfg c).toNat).getLsbD 7 = v) :
    ∃ u, exec (.getMode ch) s = .next u ∧ u.response = some (.ok (if v then 1 else 0)) := by
  obtain ⟨u, hread, _⟩ := issueAll_of_onMembus (s := s.accept) hbus (kept_accept s) [.bitRead (offCfg c) 7]
  have hanswer : (imageAnswer s.chip (.bitRead (offCfg c) 7)).getLsbD 0 = v := (getLsbD_imageAnswer_bitRead s.chip (offCfg c) 7).trans hbit
  have hget := (oneTransactionGetsAnswer s u ch c _ hch).2.2 hread
  exact ⟨_, hget, hanswer ▸ rfl⟩

theorem exec_getTgt_sentinel_of_onMembus {s : State} {ch : BitVec 3} {c : Channel} (hch : ch.toNat = c.index + 1) (hbus : OnMembus s)
    (hraw : (readWord s.chip (offTgt c)).toNat / 32 = 2047) (hmode : s.params.tgtSentinelDecode = .zero) :
    ∃ u, exec (.getTgt ch) s = .next u ∧ u.response = some (.ok 0) := by
  obtain ⟨u, hread, _⟩ := issueAll_of_onMembus (s := s.accept) hbus (kept_accept s) [.memRead (offTgt c)]
  exact ⟨_, ((targetGetAnswers s u ch c _ hch).1 hread).2 hraw hmode, rfl⟩

theorem exec_getTgt_value_of_onMembus {s : State} {ch : BitVec 3} {c : Channel} {sr tg : Nat} (hch : ch.toNat = c.index + 1)
    (hbus : OnMembus s) (hraw : (readWord s.chip (offTgt c)).toNat / 32 = tg) (h0 : tg ≠ 0) (h1 : tg ≠ 2047)
    (hsr : SrIs s.params.srUnmatched (imageCode s.chip c) sr) :
    ∃ u, exec (.getTgt ch) s = .next u ∧
      u.response = some (.ok (((491520 * sr : Nat) : Rat) / (((s.ppr.get c).toNat * tg : Nat) : Rat))) := by
  subst hraw
  obtain ⟨u, hreads, _⟩ := issueAll_of_onMembus (s := s.accept) hbus (kept_accept s) (.memRead (offTgt c) :: srReads c)
  exact ⟨_, ((targetGetAnswers s u ch c _ hch).2 _ _ _ sr hreads h0 fun hsat => absurd hsat h1).1 hsr, rfl⟩

/-! What the SETs leave on MEMBUS. -/

/-- `t` answers OK 0 and leaves a register image `m` on MEMBUS with the parameters and PPR of `s`. -/
structure SetOnMembus (s : State) (m : Memory) (t : State) : Prop where
  response : t.response = some (.ok 0)
  onMembus : OnMembus t
  kept : Kept s t
  chip : t.chip = m

/-- A SET that writes as `ops` says, and answers OK 0 when all of that succeeds. -/
theorem setOnMembus_of_issueAll {s : State} (hbus : OnMembus s) (ops : List BusOp) :
    ∃ t, issueAll s.accept ops = some (imageAnswers s.chip ops, t) ∧ SetOnMembus s (ops.foldl imageAfter s.chip) (t.respond (.ok 0)) := by
  obtain ⟨t, hall, hbus', hkept, hchip⟩ := issueAll_of_onMembus (s := s.accept) hbus (kept_accept s) ops
  exact ⟨t, hall, rfl, hbus', hkept.withPhase _, hchip⟩

theorem exec_setTgt_sentinel_of_onMembus {s : State} {ch : BitVec 3} {c : Channel} (hch : ch.toNat = c.index + 1) (hbus : OnMembus s)
    (hzero : s.req.wdata = 0) :
    ∃ t, exec (.setTgt ch) s = .next t ∧ SetOnMembus s (writeWord s.chip (offTgt c) 0xFFE0) t := by
  obtain ⟨u, hwrite, hset⟩ := setOnMembus_of_issueAll hbus [.memWrite (offTgt c) 0xFFE0]
  exact ⟨_, (targetSetWrites s u ch c 0 0 0 _ 0 0 hch).1 hzero hwrite, hset⟩

/-- A SET.TGT of an RPM other than 0 that answers OK found a speed range and a legal target for it. -/
theorem exec_setTgt_value_of_onMembus {s t : State} {ch : BitVec 3} {c : Channel} (hch : ch.toNat = c.index + 1) (hbus : OnMembus s)
    (hrpm : s.req.wdata ≠ 0) (h : exec (.setTgt ch) s = .next t) (hok : t.response = some (.ok 0)) :
    ∃ sr tg, SrIs s.params.srUnmatched (imageCode s.chip c) sr ∧ tg = 60 * sr * 8192 / ((s.ppr.get c).toNat * s.req.wdata.toNat) ∧
      1 ≤ tg ∧ tg ≤ 2046 ∧ SetOnMembus s (writeWord s.chip (offTgt c) (BitVec.ofNat 16 (tg * 32))) t := by
  obtain ⟨u, hreads, _⟩ := issueAll_of_onMembus (s := s.accept) hbus (kept_accept s) (srReads c)
  have hend {v : State} (hv : exec (.setTgt ch) s = .next v) : t = v := Host.Outcome.next.inj (h.symm.trans hv)
  obtain ⟨sr, hsr⟩ : ∃ sr, SrIs s.params.srUnmatched (imageCode s.chip c) sr := by
    rcases Nat.lt_or_ge 5 (imageCode s.chip c) with hbad | hcode
    · cases hu : s.params.srUnmatched with
      | alias32 => exact ⟨32, .inr ⟨hbad, rfl, rfl⟩⟩
      | error =>
        cases hend ((targetSetWrites s u ch c _ _ _ 0 0 0 hch).2.2 hrpm hbad hu hreads)
        cases hok
    · exact ⟨_, .inl ⟨hcode, rfl⟩⟩
  obtain ⟨tg, htg⟩ : ∃ tg, tg = 60 * sr * 8192 / ((s.ppr.get c).toNat * s.req.wdata.toNat) := ⟨_, rfl⟩
  have hwrites (w0 : Word16) := fun u => (targetSetWrites s u ch c _ _ _ w0 sr tg hch).2.1 hrpm hsr htg
  by_cases hlegal : 1 ≤ tg ∧ tg ≤ 2046
  · obtain ⟨v, hall, hset⟩ := setOnMembus_of_issueAll hbus (srReads c ++ [.memWrite (offTgt c) (BitVec.ofNat 16 (tg * 32))])
    cases hend ((hwrites _ v).1 hlegal.1 hlegal.2 hall)
    exact ⟨sr, tg, hsr, htg, hlegal.1, hlegal.2, hset⟩
  · cases hend ((hwrites 0 u).2 (by omega) hreads)
    cases hok

end Sys2Proof.Machine

namespace Sys2Proof
open Sys2Proof.Machine

/-- Settles O53: the writes one by one, and the bits each leaves. -/
theorem partialSpeedRangeWrite : Obligations.PartialSpeedRangeWrite := by
  intro s ch c k j rest hch hk hw hj hscript
  refine ⟨_, exec_channel rfl (channelOf_of_index hch) s, ?_⟩
  rw [channelBody, Request.wnum, hw, setSr_body_two_pow hk]
  rcases hj with rfl | rfl
  case inl =>
    obtain ⟨u, hrun7, hscript, hchip7, hlen7⟩ :=
      Body.run_issue_of_memory (s := start (.setSr ch) c s) hscript (.bitWrite (offDyn c) 7 (k.testBit 2)) _
    obtain ⟨v, hrun6, hchip6, hlen6⟩ := Body.run_issue_of_fail hscript (.bitWrite (offDyn c) 6 (k.testBit 1)) _
    rw [hrun7, hrun6]
    refine ⟨rfl, hlen6.trans (by rw [hlen7]; rfl), fun b hb => ?_⟩
    rw [State.raise_chip, hchip6, hchip7, getLsbD_imageAfter_bitWrite _ _ _ _ hb]
    interval_cases b <;> rfl
  case inr =>
    obtain ⟨u, hrun7, hscript, hchip7, hlen7⟩ :=
      Body.run_issue_of_memory (s := start (.setSr ch) c s) hscript (.bitWrite (offDyn c) 7 (k.testBit 2)) _
    obtain ⟨v, hrun6, hscript, hchip6, hlen6⟩ := Body.run_issue_of_memory hscript (.bitWrite (offDyn c) 6 (k.testBit 1)) _
    obtain ⟨v', hrun5, hchip5, hlen5⟩ := Body.run_issue_of_fail hscript (.bitWrite (offDyn c) 5 (k.testBit 0)) _
    rw [hrun7, hrun6, Body.lastWrite, hrun5]
    refine ⟨rfl, hlen5.trans (by rw [hlen6, hlen7]; rfl), fun b hb => ?_⟩
    rw [State.raise_chip, hchip5, hchip6, hchip7, getLsbD_imageAfter_bitWrite _ _ _ _ hb, getLsbD_imageAfter_bitWrite _ _ _ _ hb]
    interval_cases b <;> rfl

/-- Settles O54: the GET reads on MEMBUS what the SET wrote, and the calibration arrays in every environment. -/
theorem setThenGetReturnsTheValue : Obligations.SetThenGetReturnsTheValue := by
  intro s ch c r hch
  refine ⟨fun hbus => ⟨fun hmem => ?sr, fun hle hbase => ?pwm, ?mode⟩, fun hcal => ⟨?ppr, ?ppm3⟩, ?autoTune⟩
  case sr =>
    obtain ⟨k, hk, hw⟩ := mem_srset_iff.mp hmem
    obtain ⟨t, hall, hset⟩ := setOnMembus_of_issueAll hbus (srWrites c k)
    have hcode : imageCode t.chip c = k := (congrArg (imageCode · c) hset.chip).trans (imageCode_srWrites s.chip c hk)
    obtain ⟨u, hget, hu⟩ := exec_getSr_of_onMembus (s := { t with phase := .idle, req := r }) hch hset.onMembus hcode hk
    exact ⟨_, u, (speedRangeSetWrites s t ch c k _ _ _ hch).1 hk hw hall, rfl, hget, hw ▸ hu⟩
  case pwm =>
    obtain ⟨t, hall, hset⟩ := setOnMembus_of_issueAll hbus [.memWrite (offDutySet c) (BitVec.ofNat 16 (s.req.wdata.toNat * 128))]
    have hword : readWord t.chip (offDutySet c) = _ := (congrArg (readWord · (offDutySet c)) hset.chip).trans (readWord_writeWord ..)
    obtain ⟨u, hget, hu⟩ := exec_getPwm_of_onMembus (s := { t with phase := .idle, req := r }) hch hset.onMembus
      ((congrArg Params.dutyRdBase hset.kept.params).trans hbase) hword
    have hduty : (BitVec.ofNat 16 (s.req.wdata.toNat * 128)).toNat / 128 = s.req.wdata.toNat := by
      rw [BitVec.toNat_ofNat]
      omega
    exact ⟨_, u, (dutySetWrites s t ch c _ hch).1 hle hall, rfl, hget, hduty ▸ hu⟩
  case mode =>
    obtain ⟨t, hall, hset⟩ := setOnMembus_of_issueAll hbus [.bitWrite (offCfg c) 7 (s.req.wdata.getLsbD 0)]
    have hbit : (readByte t.chip (offCfg c).toNat).getLsbD 7 = s.req.wdata.getLsbD 0 :=
      (congrArg (fun m => (readByte m (offCfg c).toNat).getLsbD 7) hset.chip).trans
        (getLsbD_imageAfter_bitWrite s.chip (offCfg c) 7 (s.req.wdata.getLsbD 0) (by decide))
    obtain ⟨u, hget, hu⟩ := exec_getMode_of_onMembus (s := { t with phase := .idle, req := r }) hch hset.onMembus hbit
    exact ⟨_, u, modeSetWrites s t ch c _ hch hall, rfl, hget, hu⟩
  case ppr =>
    refine ⟨_, _, (exec_setPpr hch s).trans (congrArg _ (if_pos hcal)), exec_getPpr hch _, ?_⟩
    rw [State.respond_ppr, PerChannel.get_set_same]
    rfl
  case ppm3 =>
    refine ⟨_, _, (exec_setPpm3 hch s).trans (congrArg _ (if_pos hcal)), exec_getPpm3 hch _, ?_⟩
    rw [State.respond_ppm3, PerChannel.get_set_same]
    rfl
  case autoTune =>
    refine ⟨_, _, exec_setAt hch s, exec_getAt hch _, ?_⟩
    rw [State.respond_atEn, PerChannel.get_set_same]
    rfl

/-- Settles O55: the image SET.TGT leaves, and R119's law for the truncated target. -/
theorem setTargetThenGetTarget : Obligations.SetTargetThenGetTarget := by
  intro s t ch c r hch hbus hcal h hok
  have hraw {w : Word16} (hset : SetOnMembus s (writeWord s.chip (offTgt c) w) t) : readWord t.chip (offTgt c) = w :=
    (congrArg (readWord · (offTgt c)) hset.chip).trans (readWord_writeWord ..)
  by_cases hrpm : s.req.wdata = 0
  · obtain ⟨t', hexec, hset⟩ := exec_setTgt_sentinel_of_onMembus hch hbus hrpm
    cases h.symm.trans hexec
    refine ⟨_, 0, exec_channel rfl (channelOf_of_index hch) _, fun _ hmode => ?_, fun hne => absurd (congrArg BitVec.toNat hrpm) hne⟩
    obtain ⟨u, hget, hu⟩ := exec_getTgt_sentinel_of_onMembus (s := { t with phase := .idle, req := r }) hch hset.onMembus
      (congrArg (·.toNat / 32) (hraw hset)) ((congrArg Params.tgtSentinelDecode hset.kept.params).trans hmode)
    cases (exec_channel rfl (channelOf_of_index hch) _).symm.trans hget
    exact hu
  · obtain ⟨sr, tg, hsr, htg, hlow, hhigh, hset⟩ := exec_setTgt_value_of_onMembus hch hbus hrpm h hok
    have hword : (readWord t.chip (offTgt c)).toNat / 32 = tg := by
      rw [hraw hset, BitVec.toNat_ofNat]
      omega
    have hcode : imageCode t.chip c = imageCode s.chip c := (congrArg (imageCode · c) hset.chip).trans (imageCode_writeTarget ..)
    rw [← hcode, ← hset.kept.params] at hsr
    obtain ⟨u, hget, hu⟩ := exec_getTgt_value_of_onMembus (s := { t with phase := .idle, req := r }) hch hset.onMembus hword (by omega)
      (by omega) hsr
    refine ⟨u, _, hget, fun hzero => absurd (BitVec.eq_of_toNat_eq hzero) hrpm, fun _ => ⟨hu, ?_⟩⟩
    have hppr := one_le_toNat_of_one_le_toInt (hcal c).1
    have hnum : 60 * sr * 8192 = 491520 * sr := by omega
    rw [hnum] at htg
    subst htg
    change _ ≤ ((491520 * sr : Nat) : Rat) / (((t.ppr.get c).toNat * _ : Nat) : Rat)
    rw [hset.kept.ppr]
    exact (le_decoded_target hppr hlow).1

end Sys2Proof
